-- ==== Sys2Proof/Word.lean ====
section
/-! DEFINITION. The decimal word, its three digits, the decimal digit, and the ten-word opcode buffer
(spec/00_scope.md R7, R9; spec/10_state.md R35). -/

namespace Sys2Proof

/-- A word: an integer 0 to 999 (00_scope.md R7, R12). Also an address, since addresses are 0 to 999 (20_memory.md R50). -/
abbrev Word := Fin 1000

/-- One decimal digit 0 to 9 (00_scope.md R9). -/
abbrev Digit := Fin 10

/-- `H(w) = w div 100`, the hundreds digit (00_scope.md R9). -/
def Word.hundreds (w : Word) : Digit := ⟨w.val / 100, by omega⟩

/-- `T(w) = (w div 10) mod 10`, the tens digit (00_scope.md R9). -/
def Word.tens (w : Word) : Digit := ⟨w.val / 10 % 10, by omega⟩

/-- `U(w) = w mod 10`, the units digit (00_scope.md R9). -/
def Word.units (w : Word) : Digit := ⟨w.val % 10, by omega⟩

/-- The word `100*h + 10*t + u` (00_scope.md R9). -/
def Word.ofDigits (h t u : Digit) : Word := ⟨100 * h.val + 10 * t.val + u.val, by omega⟩

/-- `n mod 1000` as a word: the one place where an exact result is narrowed (00_scope.md R9). -/
def Word.wrap (n : Nat) : Word := ⟨n % 1000, Nat.mod_lt n (by decide)⟩

/-- The opcode buffer `BUF[0..9]` (10_state.md R35). -/
structure Buffer where
  w0 : Word
  w1 : Word
  w2 : Word
  w3 : Word
  w4 : Word
  w5 : Word
  w6 : Word
  w7 : Word
  w8 : Word
  w9 : Word
  deriving DecidableEq, Repr

/-- `BUF[k]` (00_scope.md R10). -/
def Buffer.word (b : Buffer) (k : Digit) : Word :=
  match k with
  | 0 => b.w0
  | 1 => b.w1
  | 2 => b.w2
  | 3 => b.w3
  | 4 => b.w4
  | 5 => b.w5
  | 6 => b.w6
  | 7 => b.w7
  | 8 => b.w8
  | 9 => b.w9

/-- The ten words of the buffer in order. -/
def Buffer.words (b : Buffer) : List Word :=
  [b.w0, b.w1, b.w2, b.w3, b.w4, b.w5, b.w6, b.w7, b.w8, b.w9]

end Sys2Proof
end

