-- ==== Sys2Proof/Config.lean ====
section
/-! DEFINITION. The implementation parameters the spec leaves open (spec/00_scope.md R8, spec/10_state.md R42).
Opaque constants are free values: nothing can be proved of their value. The reset values are named here, each a
DESIGN CHOICE of the assumption log. The types of OPMAP and DECODE_CAPS stand here, and their values, the spec's
defaults, in Decode.lean (log 8, log 9). -/

namespace Sys2Proof

/-- The named register slots of the register file (10_state.md R20 to R32), as the host's accessor names them
(60_exceptions.md R295). -/
inductive Slot where
  | sp
  | r1 | r2 | r3 | r4 | r5 | r6 | r7 | r8
  | ip
  | zero
  | flags
  | ver
  /-- `RSV[k+1]` -/
  | rsv (k : Nat)
  deriving DecidableEq, Repr

/-- `OPMAP`: the digit numbers of the dispatch entries, one renumbering a table (30_encoding.md R93, D1). A renumbering
sends the digit a word holds to the entry it selects, an entry being named by the digit that the spec's default gives
it; as a permutation it gives every entry one digit, and the digits left over are the reserved entries'. -/
structure OpMap where
  /-- group 9, by tens digit (R92) -/
  group9 : Equiv.Perm Digit
  /-- group 99, by units digit (R94) -/
  group99 : Equiv.Perm Digit
  /-- group 8, by tens digit (R95) -/
  group8 : Equiv.Perm Digit
  /-- the payload after 990, by hundreds digit (R97) -/
  payload990 : Equiv.Perm Digit
  /-- the NOT sub-table, by the payload's tens digit (R98) -/
  sub990 : Equiv.Perm Digit
  /-- the payload after 890, by hundreds digit (R99) -/
  payload890 : Equiv.Perm Digit
  /-- the bit-test sub-table, by the payload's tens digit (R100) -/
  sub890 : Equiv.Perm Digit
  deriving DecidableEq

/-- The digit numbers that the source confirms, which every OPMAP keeps (30_encoding.md R93): group 99, the prefixes 990
and 890, HLT, and OR, XOR, AND, CLR, SHL, SHR. The top-level table and group 89 are confirmed whole and no part of it. -/
abbrev OpMap.wf (m : OpMap) : Prop :=
  m.group9 9 = 9 ∧ m.group99 0 = 0 ∧ m.group99 9 = 9 ∧ m.group8 9 = 9 ∧
    ∀ h : Digit, 1 ≤ h.val → h.val ≤ 6 → m.payload990 h = h

/-- The three capability flags of the length rule (30_encoding.md R80): an enabled destination addressing digit, an
enabled source addressing digit, an enabled immediate mode. -/
structure CapFlags where
  dE : Bool
  sE : Bool
  iE : Bool
  deriving DecidableEq, Repr

/-- `DECODE_CAPS`: the capability flags of every dispatch entry, entries named as in `OpMap` (30_encoding.md R81 to R83,
D4). -/
structure DecodeCaps where
  /-- the groups 0 to 7, by hundreds digit -/
  top : Digit → CapFlags
  group8 : Digit → CapFlags
  group9 : Digit → CapFlags
  payload990 : Digit → CapFlags
  sub990 : Digit → CapFlags
  payload890 : Digit → CapFlags
  sub890 : Digit → CapFlags

/-- `TST_PROBE`, the 9-bit probe pattern of the bit tests (45_bitwise.md R232, D10). Free value, log 7. -/
opaque Config.tstProbe : BitVec 9

/-- `TEXT_BASE`, at most 700 (20_memory.md R58, D28). Free value, log 16. -/
opaque Config.textBase : Fin 701

/-- `TEXT_BASE + TEXT_LEN - 702`: the window ends above cell 701 and at or below 1000 (20_memory.md R58, D28).
Free value, log 16. -/
opaque Config.textEndAbove702 : Fin 299

/-- The glyph table for the codes the source states nothing about (20_memory.md R58). Free value, log 16. -/
opaque Config.glyphOfOtherCode : Word → Option Char

/-- `REG_INDEX`, as the index of each slot number of `slotNumber`: the slots get pairwise different indices, and any
such numbering is some permutation's (60_exceptions.md R295, D27: "a bijection onto the slots"). Free value, log 17. -/
opaque Config.regIndex : Equiv.Perm Nat

/-- `RESET_SP` (10_state.md R40, open). DESIGN CHOICE, log 3. -/
def Config.resetSp : Word := 0

/-- `RESET_R[k+1]` for k in 0..7 (10_state.md R40, open). DESIGN CHOICE, log 3. -/
def Config.resetR (k : Fin 8) : Word :=
  match k with
  | 0 => 0
  | 1 => 0
  | 2 => 0
  | 3 => 0
  | 4 => 0
  | 5 => 0
  | 6 => 0
  | 7 => 0

/-- `RESET_FLAGS` (10_state.md R40, open). DESIGN CHOICE, log 3. -/
def Config.resetFlags : Word := 0

/-- `VERSION` (10_state.md R31, open). DESIGN CHOICE, log 3. -/
def Config.version : Word := 0

/-- `RESET_RSV[1..N_RSV]`; its length is `N_RSV`, at least 2 (10_state.md R32, D11, open). DESIGN CHOICE, log 4. -/
def Config.resetRsv : List Word := [0, 0]

end Sys2Proof
end

