-- ==== Sys2Proof/Machine/State.lean ====
section
/-! DEFINITION. The machine's state (spec/10_state.md R20, "exactly"), its reset value (R40) and the reasons a step
can stop. -/

namespace Sys2Proof.Machine

/-- The processor state `PSTATE` (10_state.md R37). -/
inductive PState where
  | idle
  | running
  | error
  deriving DecidableEq, Repr

/-- The eight general-purpose registers (10_state.md R21), as names. -/
inductive GReg where
  | r1 | r2 | r3 | r4 | r5 | r6 | r7 | r8
  deriving DecidableEq, Repr

/-- The general-purpose registers' values (10_state.md R21). R5 to R8 are reached by the host only (R22). -/
structure Regs where
  r1 : Word
  r2 : Word
  r3 : Word
  r4 : Word
  r5 : Word
  r6 : Word
  r7 : Word
  r8 : Word
  deriving DecidableEq, Repr

/-- A table from addresses to words that lists only what differs from a default: addresses strictly rising. Memory
and the address translator are such tables. The cell of this machine is the decimal word, not the byte (log 1). -/
abbrev Table := List (Word × Word)

/-- What a memory cell that no entry lists reads as: 0, the value reset clears the caller's region to
(70_reset_and_hazards.md R300, D17), the region of `State.reset` being all of memory. DESIGN CHOICE, log 2. -/
def unlistedCell (_ : Word) : Word := 0

/-- The canonical form of a table whose unlisted addresses read as `dflt`: addresses strictly rising, and no entry
equal to what its address would read as unlisted. -/
abbrev Table.wf (dflt : Word → Word) (t : Table) : Prop :=
  t.Pairwise (fun p q => p.1 < q.1) ∧ ∀ p ∈ t, p.2 ≠ dflt p.1

/-- The canonical form of memory. -/
abbrev Memory.wf (m : Table) : Prop := Table.wf unlistedCell m

/-- The architectural state of the core (10_state.md R20). ZERO is hard-wired and stores nothing (R27, log 18). -/
structure State where
  /-- `MEM[0..999]`, by physical address; an unlisted cell reads as `unlistedCell` (R33) -/
  mem : Table
  /-- `XLATT[0..999]`; an unlisted logical address translates to itself (R34, log 6) -/
  xlatt : Table
  /-- `R1` to `R8` (R21) -/
  gpr : Regs
  /-- `SP` (R24) -/
  sp : Word
  /-- `IP` (R25) -/
  ip : Word
  /-- `FLAGS` (R28) -/
  flags : Word
  /-- `VER` (R31) -/
  ver : Word
  /-- `RSV[1..N_RSV]`, one entry a slot (R32) -/
  rsv : List Word
  /-- `BUF[0..9]` (R35) -/
  buf : Buffer
  /-- `LASTW`: a physical address, or `none` (R36) -/
  lastw : Option Word
  /-- `PSTATE` (R37) -/
  pstate : PState
  deriving DecidableEq, Repr

/-- The reasons for a step to stop with a fault: there are none. The spec's two fault conditions, division by zero
and an unmapped encoding, put the core into the Error state, which is a next state (60_exceptions.md R270, R271),
and no access, address, operand value or instruction length faults (R270). Safe: nothing is hidden behind a fault. -/
inductive Fault where
  deriving DecidableEq, Repr

/-- The reasons for a step, or for an action of the host, to be refused. -/
inductive Refusal where
  /-- An instruction without a meaning; raised by an arm of `exec` only, and no arm does. Safe. -/
  | notModelled (mnemonic : String)
  /-- `UNSPEC(DST_MODE0)`: a destination operand with mode digit 0, which the source gives no behaviour for
  (60_exceptions.md R275: "A model treats it as a refusal"). Raised by every instruction with a destination. Safe: the
  model claims nothing of what follows (log 12). -/
  | unspecDstMode0
  /-- A host write of a number outside 0 to 999 (10_state.md R23, D16). Raised by the host's accessors only. Safe. -/
  | hostValueNotAWord (n : Nat)
  /-- A host access to a register slot the core does not have: an RSV number at or above N_RSV, or an index that
  is no slot's under REG_INDEX (60_exceptions.md R295, log 15). Raised by the host's accessors only. Safe. -/
  | hostNoSuchSlot
  deriving DecidableEq, Repr

/-- The opcode buffer in `State.reset`: `INIT_BUF` is open and reset leaves the buffer unchanged (10_state.md R40, R41).
DESIGN CHOICE, log 5. Every step fetches before it reads the buffer. -/
def resetBuffer : Buffer := ⟨0, 0, 0, 0, 0, 0, 0, 0, 0, 0⟩

/-- The general registers after reset (10_state.md R40). -/
def resetRegs : Regs :=
  ⟨Config.resetR 0, Config.resetR 1, Config.resetR 2, Config.resetR 3, Config.resetR 4, Config.resetR 5,
    Config.resetR 6, Config.resetR 7⟩

/-- The machine right after a reset whose region is the whole memory (10_state.md R40, 70_reset_and_hazards.md R300;
log 2, log 3, log 4, log 5). -/
def State.reset : State where
  mem := []
  xlatt := []
  gpr := resetRegs
  sp := Config.resetSp
  ip := 0
  flags := Config.resetFlags
  ver := Config.version
  rsv := Config.resetRsv
  buf := resetBuffer
  lastw := none
  pstate := .running

/-- The three outcomes of an instruction, a step or an action of the host. -/
abbrev Result := Host.Outcome State Fault Refusal

end Sys2Proof.Machine
end

