-- ==== Sys2Proof/Syntax.lean ====
section
/-! DEFINITION. The syntax: operand forms and one constructor of `Instr` for each of the 62 rows of
spec/opcode_table.json. -/

namespace Sys2Proof

/-- The registers that mode digits name: R1 to R4 (10_state.md R21). -/
inductive MReg where
  | r1 | r2 | r3 | r4
  deriving DecidableEq, Repr

/-- A source operand: modes 0 to 9 of role SRC (30_encoding.md R110). -/
inductive Src where
  /-- mode 0: the extension word itself -/
  | imm (v : Word)
  /-- modes 1 to 4: register-direct -/
  | reg (r : MReg)
  /-- modes 5 to 8: register-indirect -/
  | ind (r : MReg)
  /-- mode 9: the extension word is the address -/
  | abs (a : Word)
  deriving DecidableEq, Repr

/-- A destination operand, of any of the three destination roles (30_encoding.md R110, R111). -/
inductive Dst where
  /-- mode 0, which the source gives a destination no behaviour for (30_encoding.md R121) -/
  | mode0
  /-- modes 1 to 4: register-direct -/
  | reg (r : MReg)
  /-- modes 5 to 8: register-indirect -/
  | ind (r : MReg)
  /-- mode 9: the extension word is the address -/
  | abs (a : Word)
  deriving DecidableEq, Repr

/-- The instructions: one constructor per row of spec/opcode_table.json, in the table's order. -/
inductive Instr where
  /-- ADD, `1DS` -/
  | add (d : Dst) (s : Src)
  /-- SUB, `2DS` -/
  | sub (d : Dst) (s : Src)
  /-- MUL, `3DS` -/
  | mul (d : Dst) (s : Src)
  /-- DIV, `4DS` -/
  | div (d : Dst) (s : Src)
  /-- MOV, `5DS` -/
  | mov (d : Dst) (s : Src)
  /-- CMP, `6DS` -/
  | cmp (d : Dst) (s : Src)
  /-- JCC, `7CS` -/
  | jcc (c : Digit) (s : Src)
  /-- INC, `90M` -/
  | inc (m : Dst)
  /-- DEC, `91M` -/
  | dec (m : Dst)
  /-- IN, `92M`, reserved -/
  | inp (m : Digit)
  /-- OUT, `93M`, reserved -/
  | out (m : Digit)
  /-- POP, `94M` -/
  | pop (m : Dst)
  /-- PUSH, `95M` -/
  | push (m : Src)
  /-- CALL, `96M` -/
  | call (m : Src)
  /-- RESERVED_G9_T7, `97x` -/
  | reservedG9T7 (x : Digit)
  /-- RESERVED_G9_T8, `98x` -/
  | reservedG9T8 (x : Digit)
  /-- PUSHZ, `991` -/
  | pushz
  /-- RET, `992` -/
  | ret
  /-- NOP, `993` -/
  | nop
  /-- LIB, `994,x`, reserved -/
  | lib (x : Word)
  /-- SYS, `995,x`, reserved -/
  | sys (x : Word)
  /-- RESERVED_996, `996` -/
  | reserved996
  /-- RESERVED_997, `997` -/
  | reserved997
  /-- RESERVED_998, `998` -/
  | reserved998
  /-- HLT, `999` -/
  | hlt
  /-- LEA, `80x`, reserved -/
  | lea (x : Digit)
  /-- NEG, `81M` -/
  | neg (m : Dst)
  /-- SI, `82x`, reserved -/
  | si (x : Digit)
  /-- SO, `83x`, reserved -/
  | so (x : Digit)
  /-- MOVZ, `84M` -/
  | movz (m : Dst)
  /-- CMPZ, `85M` -/
  | cmpz (m : Src)
  /-- RETCC, `86C` -/
  | retcc (c : Digit)
  /-- RESERVED_G8_T7, `87x` -/
  | reservedG8T7 (x : Digit)
  /-- RESERVED_G8_T8, `88x` -/
  | reservedG8T8 (x : Digit)
  /-- RESERVED_G89, `89u` with u in 1..9 -/
  | reservedG89 (u : Digit)
  /-- GROUP0, `0xx` -/
  | group0 (t u : Digit)
  /-- OR, `990,1DS` -/
  | or (d : Dst) (s : Src)
  /-- XOR, `990,2DS` -/
  | xor (d : Dst) (s : Src)
  /-- AND, `990,3DS` -/
  | and (d : Dst) (s : Src)
  /-- CLR, `990,4DS` -/
  | clr (d : Dst) (s : Src)
  /-- SHL, `990,5DS` -/
  | shl (d : Dst) (s : Src)
  /-- SHR, `990,6DS` -/
  | shr (d : Dst) (s : Src)
  /-- SETCC, `990,7xx`, reserved -/
  | setcc (t u : Digit)
  /-- NOT, `990,80M` -/
  | not (m : Dst)
  /-- RESERVED_990_81_89, `990,8tx` with t in 1..9 -/
  | reserved990T (t x : Digit)
  /-- RESERVED_990_H0, `990,0xx` -/
  | reserved990H0 (t u : Digit)
  /-- RESERVED_990_H9, `990,9xx` -/
  | reserved990H9 (t u : Digit)
  /-- TSTM, `890,1DS` -/
  | tstm (d : Dst) (s : Src)
  /-- SCAN, `890,2xx`, reserved -/
  | scan (t u : Digit)
  /-- LEN, `890,3xx`, reserved -/
  | len (t u : Digit)
  /-- CNT, `890,4xx`, reserved -/
  | cnt (t u : Digit)
  /-- ROT, `890,5xx`, reserved -/
  | rot (t u : Digit)
  /-- TST, `890,60M` -/
  | tst (m : Src)
  /-- CTB, `890,61M` -/
  | ctb (m : Dst)
  /-- CTD, `890,62M` -/
  | ctd (m : Dst)
  /-- ROTX, `890,63x`, reserved -/
  | rotx (x : Digit)
  /-- CLRX, `890,64x`, reserved -/
  | clrx (x : Digit)
  /-- RESERVED_890_65_69, `890,6tx` with t in 5..9 -/
  | reserved890T (t x : Digit)
  /-- RESERVED_890_H0, `890,0xx` -/
  | reserved890H0 (t u : Digit)
  /-- RESERVED_890_H7, `890,7xx` -/
  | reserved890H7 (t u : Digit)
  /-- RESERVED_890_H8, `890,8xx` -/
  | reserved890H8 (t u : Digit)
  /-- RESERVED_890_H9, `890,9xx` -/
  | reserved890H9 (t u : Digit)
  deriving DecidableEq, Repr

/-- The rows whose dispatch entry is reserved: each raises Error(UNMAPPED) (46_reserved.md R256). -/
def Instr.isReserved : Instr → Bool
  | .inp _ | .out _ | .reservedG9T7 _ | .reservedG9T8 _ | .lib _ | .sys _ => true
  | .reserved996 | .reserved997 | .reserved998 => true
  | .lea _ | .si _ | .so _ | .reservedG8T7 _ | .reservedG8T8 _ | .reservedG89 _ | .group0 _ _ => true
  | .setcc _ _ | .reserved990T _ _ | .reserved990H0 _ _ | .reserved990H9 _ _ => true
  | .scan _ _ | .len _ _ | .cnt _ _ | .rot _ _ | .rotx _ | .clrx _ => true
  | .reserved890T _ _ | .reserved890H0 _ _ | .reserved890H7 _ _ | .reserved890H8 _ _ | .reserved890H9 _ _ => true
  | .add _ _ | .sub _ _ | .mul _ _ | .div _ _ | .mov _ _ | .cmp _ _ | .jcc _ _ | .inc _ | .dec _ => false
  | .pop _ | .push _ | .call _ | .pushz | .ret | .nop | .hlt | .neg _ | .movz _ | .cmpz _ | .retcc _ => false
  | .or _ _ | .xor _ _ | .and _ _ | .clr _ _ | .shl _ _ | .shr _ _ | .not _ => false
  | .tstm _ _ | .tst _ | .ctb _ | .ctd _ => false

/-- The destination operand of an instruction that has one (any of the three destination roles, 30_encoding.md R111). -/
def Instr.dst? : Instr → Option Dst
  | .add d _ | .sub d _ | .mul d _ | .div d _ | .mov d _ | .cmp d _ => some d
  | .or d _ | .xor d _ | .and d _ | .clr d _ | .shl d _ | .shr d _ | .tstm d _ => some d
  | .inc m | .dec m | .pop m | .neg m | .movz m | .not m | .ctb m | .ctd m => some m
  | .jcc _ _ | .push _ | .call _ | .pushz | .ret | .nop | .hlt | .cmpz _ | .retcc _ | .tst _ => none
  | .inp _ | .out _ | .reservedG9T7 _ | .reservedG9T8 _ | .lib _ | .sys _ => none
  | .reserved996 | .reserved997 | .reserved998 => none
  | .lea _ | .si _ | .so _ | .reservedG8T7 _ | .reservedG8T8 _ | .reservedG89 _ | .group0 _ _ => none
  | .setcc _ _ | .reserved990T _ _ | .reserved990H0 _ _ | .reserved990H9 _ _ => none
  | .scan _ _ | .len _ _ | .cnt _ _ | .rot _ _ | .rotx _ | .clrx _ => none
  | .reserved890T _ _ | .reserved890H0 _ _ | .reserved890H7 _ _ | .reserved890H8 _ _ | .reserved890H9 _ _ => none

end Sys2Proof
end

