-- ==== Sys2Proof/Machine/Ops.lean ====
section
/-! DEFINITION. The named operations over tables, memory, registers and the stack, and entering the Error state
(spec/20_memory.md, spec/10_state.md, spec/43_stack.md, spec/60_exceptions.md). -/

namespace Sys2Proof.Machine

/-! ### Tables in canonical form -/

/-- The entry of an address, if it is listed. -/
def Table.find : Table → Word → Option Word
  | [], _ => none
  | (k, v) :: rest, a => if a = k then some v else Table.find rest a

/-- The table with an entry listed for `a`, addresses kept rising. -/
def Table.insert : Table → Word → Word → Table
  | [], a, v => [(a, v)]
  | (k, w) :: rest, a, v =>
    if a < k then (a, v) :: (k, w) :: rest
    else if a = k then (k, v) :: rest
    else (k, w) :: Table.insert rest a v

/-- The table with no entry listed for `a`. -/
def Table.erase (t : Table) (a : Word) : Table := t.filter (fun p => decide (p.1 ≠ a))

/-- `MEM[p]`, p a physical address (10_state.md R33). -/
def Memory.read (m : Table) (p : Word) : Word := (Table.find m p).getD (unlistedCell p)

/-- `MEM[p] <- v`: writing what an unlisted cell reads as removes the entry. -/
def Memory.write (m : Table) (p v : Word) : Table :=
  if v = unlistedCell p then Table.erase m p else Table.insert m p v

/-- Every cell `a` with `start ≤ a < start + len` cleared to 0, the reset's region (70_reset_and_hazards.md R300, D17). -/
def Memory.clear (m : Table) (start : Word) (len : Nat) : Table :=
  (List.range len).foldl
    (fun t k => if h : start.val + k < 1000 then Memory.write t ⟨start.val + k, h⟩ 0 else t) m

/-! ### Registers -/

/-- The general register that an operand's register name stands for (10_state.md R21). -/
def gregOf : MReg → GReg
  | .r1 => .r1
  | .r2 => .r2
  | .r3 => .r3
  | .r4 => .r4

/-- Read a general register. -/
def Regs.get (g : Regs) : GReg → Word
  | .r1 => g.r1
  | .r2 => g.r2
  | .r3 => g.r3
  | .r4 => g.r4
  | .r5 => g.r5
  | .r6 => g.r6
  | .r7 => g.r7
  | .r8 => g.r8

/-- Write a general register. -/
def Regs.set (g : Regs) (r : GReg) (v : Word) : Regs :=
  match r with
  | .r1 => { g with r1 := v }
  | .r2 => { g with r2 := v }
  | .r3 => { g with r3 := v }
  | .r4 => { g with r4 := v }
  | .r5 => { g with r5 := v }
  | .r6 => { g with r6 := v }
  | .r7 => { g with r7 := v }
  | .r8 => { g with r8 := v }

/-- `R[i]` (00_scope.md R10). -/
def State.reg (s : State) (r : GReg) : Word := s.gpr.get r

/-- `R[i] <- v` (00_scope.md R10). -/
def State.setReg (s : State) (r : GReg) (v : Word) : State := { s with gpr := s.gpr.set r v }

/-- `SP <- v`. -/
def State.setSp (s : State) (v : Word) : State := { s with sp := v }

/-- `IP <- v`. -/
def State.setIp (s : State) (v : Word) : State := { s with ip := v }

/-- `FLAGS <- v`. -/
def State.setFlags (s : State) (v : Word) : State := { s with flags := v }

/-- `LASTW <- p` (10_state.md R36). -/
def State.setLastw (s : State) (p : Word) : State := { s with lastw := some p }

/-- `PSTATE <- p` (10_state.md R37). -/
def State.setPstate (s : State) (p : PState) : State := { s with pstate := p }

/-- The buffer filled and IP advanced, by a fetch (30_encoding.md R73, R74). -/
def State.setFetched (s : State) (b : Buffer) (ip : Word) : State := { s with buf := b, ip := ip }

/-! ### Memory through the translator -/

/-- `XLAT(a)` (20_memory.md R52). -/
def State.xlat (s : State) (a : Word) : Word := (Table.find s.xlatt a).getD a

/-- `MemRead(a)` (20_memory.md R53). -/
def State.memRead (s : State) (a : Word) : Word := Memory.read s.mem (s.xlat a)

/-- `MemWrite(a, v)`, which does not record LASTW (20_memory.md R54). -/
def State.memWrite (s : State) (a v : Word) : State := { s with mem := Memory.write s.mem (s.xlat a) v }

/-! ### The stack -/

/-- The address just below `SP`, `(SP - 1) mod 1000` (43_stack.md R170, 20_memory.md R65). -/
def State.spBelow (s : State) : Word := Word.wrap (999 + s.sp.val)

/-- `Push(v)`: SP is decremented, then the word is stored there; LASTW is not touched (43_stack.md R170). -/
def State.push (s : State) (v : Word) : State := (s.setSp s.spBelow).memWrite s.spBelow v

/-- The word that `Pop()` returns (43_stack.md R171). -/
def State.popValue (s : State) : Word := s.memRead s.sp

/-- The state that `Pop()` leaves (43_stack.md R171). -/
def State.popped (s : State) : State := s.setSp (Word.wrap (s.sp.val + 1))

/-! ### Entering the Error state -/

/-- The model's labels for the two fatal conditions; the hardware records none (60_exceptions.md R272). -/
inductive ErrorCause where
  | div0
  | unmapped
  deriving DecidableEq, Repr

/-- `raise Error(cause)`: PSTATE becomes Error and nothing is saved, so the cause leaves no trace in the state; IP
stays as the fetch left it and no write made before is undone (60_exceptions.md R271 to R273). There is no trap-return
instruction: the only way out is the host's reset (R279), `hostReset`. -/
def raiseError (_cause : ErrorCause) (s : State) : Result := .next (s.setPstate .error)

end Sys2Proof.Machine
end

