-- ==== Sys2Proof/Machine/Operands.lean ====
section
/-! DEFINITION. The Addressing-Mode Resolver: operand locations, reads and writes (spec/30_encoding.md R110 to R117),
and the shared shapes of instructions that act through a destination. The decoder has already taken each operand's
extension word from the buffer (R112). -/

namespace Sys2Proof.Machine

/-- The location of a destination operand (30_encoding.md R110). -/
inductive Loc where
  | reg (r : GReg)
  /-- a logical address, translated on access -/
  | mem (a : Word)
  deriving DecidableEq, Repr

/-- `Resolve(m, role)` for a destination role; none is UNSPEC(DST_MODE0) (30_encoding.md R110). -/
def State.dstLoc (s : State) : Dst → Option Loc
  | .mode0 => none
  | .reg r => some (.reg (gregOf r))
  | .ind r => some (.mem (s.reg (gregOf r)))
  | .abs a => some (.mem a)

/-- `Read(loc)` of a destination location (30_encoding.md R115). -/
def State.readLoc (s : State) : Loc → Word
  | .reg r => s.reg r
  | .mem a => s.memRead a

/-- `Write(loc, v)`: a memory destination records its physical address in LASTW (30_encoding.md R116). -/
def State.writeLoc (s : State) (l : Loc) (v : Word) : State :=
  match l with
  | .reg r => s.setReg r v
  | .mem a => (s.memWrite a v).setLastw (s.xlat a)

/-- `Read(Resolve(m, SRC))`: the value of a source operand (30_encoding.md R110, R115). -/
def State.srcValue (s : State) : Src → Word
  | .imm v => v
  | .reg r => s.reg (gregOf r)
  | .ind r => s.memRead (s.reg (gregOf r))
  | .abs a => s.memRead a

/-- Resolve a destination, then go on with its location; mode digit 0 is UNSPEC(DST_MODE0), which comes before every
read and check (30_encoding.md R117, 60_exceptions.md R276). -/
def withDst (d : Dst) (s : State) (k : Loc → Result) : Result :=
  match s.dstLoc d with
  | none => .refused .unspecDstMode0
  | some l => k l

/-- `d <- f(d)` for one destination of role DST_RW. -/
def updateDst (f : Word → Word) (d : Dst) (s : State) : Result :=
  withDst d s fun l => .next (s.writeLoc l (f (s.readLoc l)))

/-- `d <- f(d, s)` for a destination of role DST_RW and a source: both are read before the write (30_encoding.md R117). -/
def combineDst (f : Word → Word → Word) (d : Dst) (src : Src) (s : State) : Result :=
  withDst d s fun l => .next (s.writeLoc l (f (s.readLoc l) (s.srcValue src)))

/-- `d <- v` for a destination of role DST_W. -/
def storeDst (v : Word) (d : Dst) (s : State) : Result :=
  withDst d s fun l => .next (s.writeLoc l v)

/-- `FLAGS <- f(d, s)` for a destination of role DST_R and a source: the destination is not written. -/
def flagsFromDst (f : Word → Word → Word) (d : Dst) (src : Src) (s : State) : Result :=
  withDst d s fun l => .next (s.setFlags (f (s.readLoc l) (s.srcValue src)))

/-- `FLAGS <- f(s)` for a source. -/
def flagsFromSrc (f : Word → Word) (src : Src) (s : State) : Result :=
  .next (s.setFlags (f (s.srcValue src)))

end Sys2Proof.Machine
end

