-- ==== Sys2Proof/Machine/Arithmetic.lean ====
section
/-! DEFINITION. The arithmetic instructions (spec/41_arithmetic.md R130 to R138). None writes FLAGS (R138). -/

namespace Sys2Proof.Machine

/-- ADD (41_arithmetic.md R130). -/
def execAdd (d : Dst) (src : Src) (s : State) : Result :=
  combineDst (fun dv sv => Word.wrap (dv.val + sv.val)) d src s

/-- SUB (41_arithmetic.md R131): the non-negative remainder. -/
def execSub (d : Dst) (src : Src) (s : State) : Result :=
  combineDst (fun dv sv => Word.wrap (1000 + dv.val - sv.val)) d src s

/-- MUL (41_arithmetic.md R132). -/
def execMul (d : Dst) (src : Src) (s : State) : Result :=
  combineDst (fun dv sv => Word.wrap (dv.val * sv.val)) d src s

/-- DIV (41_arithmetic.md R133): floor division; a source of 0 is Error(DIV0), after resolution and before any write. -/
def execDiv (d : Dst) (src : Src) (s : State) : Result :=
  withDst d s fun l =>
    if (s.srcValue src).val = 0 then raiseError .div0 s
    else .next (s.writeLoc l (Word.wrap ((s.readLoc l).val / (s.srcValue src).val)))

/-- INC (41_arithmetic.md R134). -/
def execInc (d : Dst) (s : State) : Result := updateDst (fun dv => Word.wrap (dv.val + 1)) d s

/-- DEC (41_arithmetic.md R135). -/
def execDec (d : Dst) (s : State) : Result := updateDst (fun dv => Word.wrap (999 + dv.val)) d s

/-- NEG (41_arithmetic.md R136): the base-1000 complement. -/
def execNeg (d : Dst) (s : State) : Result := updateDst (fun dv => Word.wrap (1000 - dv.val)) d s

end Sys2Proof.Machine
end

