-- ==== Sys2Proof/Machine/Flags.lean ====
section
/-! DEFINITION. Every flag computation of the spec and the condition test (spec/42_move_compare.md R152, R160;
spec/45_bitwise.md R232; spec/44_control.md R180). -/

namespace Sys2Proof.Machine

/-- LessThan = 1 (10_state.md R28). -/
def flagLT : Word := 1

/-- GreaterThan = 2 (10_state.md R28). -/
def flagGT : Word := 2

/-- EqualTo = 4 (10_state.md R28). -/
def flagEQ : Word := 4

/-- CMP's flags: the unsigned order of destination and source (42_move_compare.md R152). -/
def compareFlags (dv sv : Word) : Word :=
  if dv.val < sv.val then flagLT else if sv.val < dv.val then flagGT else flagEQ

/-- CMPZ's flags: the base-1000 complement sign (42_move_compare.md R160). -/
def signFlags (sv : Word) : Word :=
  if 500 ≤ sv.val then flagLT else if 1 ≤ sv.val then flagGT else flagEQ

/-- `Classify(t1)` under a probe: the zero test comes first (45_bitwise.md R232). -/
def classifyUnder (probe t1 : BitVec 9) : Word :=
  if t1 &&& probe = 0 then flagLT else if t1 &&& probe = probe then flagGT else flagEQ

/-- `Classify(t1)` under the machine's own probe, a free value (45_bitwise.md R232, log 7). -/
def classify (t1 : BitVec 9) : Word := classifyUnder Config.tstProbe t1

/-- `Cond(c) = ((FLAGS AND c) ≠ 0)`, on the binary values, for every digit and every FLAGS word (44_control.md R180). -/
def condHolds (flags : Word) (c : Digit) : Bool := decide (flags.val &&& c.val ≠ 0)

end Sys2Proof.Machine
end

