-- ==== Sys2Proof/Machine/Transcode.lean ====
section
/-! DEFINITION. The transcoding layer between digit-decimal words and 9-bit values (spec/45_bitwise.md R200 to R202). -/

namespace Sys2Proof.Machine

/-- The 512 words whose three digits are each 0 to 7 (00_scope.md R12). -/
def isDigitDecimal (x : Word) : Bool :=
  decide (x.hundreds.val ≤ 7) && decide (x.tens.val ≤ 7) && decide (x.units.val ≤ 7)

/-- `tc(x)`: the digits as three bits each, hundreds highest; a word with a digit 8 or 9 gives 0
(45_bitwise.md R200, R202). -/
def tc (x : Word) : BitVec 9 :=
  if isDigitDecimal x then BitVec.ofNat 9 (64 * x.hundreds.val + 8 * x.tens.val + x.units.val) else 0

/-- The digit-decimal word of a 9-bit value: `100*y[8:6] + 10*y[5:3] + y[2:0]` (45_bitwise.md R201). -/
def wordOfBits (y : BitVec 9) : Word :=
  Word.wrap (100 * (y.toNat / 64 % 8) + 10 * (y.toNat / 8 % 8) + y.toNat % 8)

/-- `tcinv(y)` of a word: 0 above 511 (45_bitwise.md R201, R202). -/
def tcinv (y : Word) : Word := if y.val ≤ 511 then wordOfBits (BitVec.ofNat 9 y.val) else 0

end Sys2Proof.Machine
end

