-- ==== Sys2Proof/Machine/BitTest.lean ====
section
/-! DEFINITION. The bit-test and conversion instructions, prefix 890 (spec/45_bitwise.md R230 to R234). -/

namespace Sys2Proof.Machine

/-- TSTM (45_bitwise.md R230): the destination is not written. -/
def execTstm (d : Dst) (src : Src) (s : State) : Result :=
  flagsFromDst (fun dv sv => classify (tc dv &&& tc sv)) d src s

/-- TST (45_bitwise.md R231). -/
def execTst (src : Src) (s : State) : Result := flagsFromSrc (fun sv => classify (tc sv)) src s

/-- CTB (45_bitwise.md R233): the packed 9-bit value as a plain decimal number. -/
def execCtb (d : Dst) (s : State) : Result := updateDst (fun dv => Word.wrap (tc dv).toNat) d s

/-- CTD (45_bitwise.md R234). -/
def execCtd (d : Dst) (s : State) : Result := updateDst tcinv d s

end Sys2Proof.Machine
end

