-- ==== Sys2Proof/Machine/Bitwise.lean ====
section
/-! DEFINITION. The bitwise-logic instructions, prefix 990 (spec/45_bitwise.md R210 to R216). None writes FLAGS. -/

namespace Sys2Proof.Machine

/-- OR (45_bitwise.md R210). -/
def execOr (d : Dst) (src : Src) (s : State) : Result :=
  combineDst (fun dv sv => wordOfBits (tc dv ||| tc sv)) d src s

/-- XOR (45_bitwise.md R211). -/
def execXor (d : Dst) (src : Src) (s : State) : Result :=
  combineDst (fun dv sv => wordOfBits (tc dv ^^^ tc sv)) d src s

/-- AND (45_bitwise.md R212). -/
def execAnd (d : Dst) (src : Src) (s : State) : Result :=
  combineDst (fun dv sv => wordOfBits (tc dv &&& tc sv)) d src s

/-- CLR (45_bitwise.md R213): AND with the complement of the source. -/
def execClr (d : Dst) (src : Src) (s : State) : Result :=
  combineDst (fun dv sv => wordOfBits (tc dv &&& (tc sv ^^^ 0x1FF#9))) d src s

/-- SHL (45_bitwise.md R214): by the source's plain value modulo 10, masked to 9 bits by the width. -/
def execShl (d : Dst) (src : Src) (s : State) : Result :=
  combineDst (fun dv sv => wordOfBits (tc dv <<< (sv.val % 10))) d src s

/-- SHR (45_bitwise.md R215): zeros enter from the left. -/
def execShr (d : Dst) (src : Src) (s : State) : Result :=
  combineDst (fun dv sv => wordOfBits (tc dv >>> (sv.val % 10))) d src s

/-- NOT (45_bitwise.md R216): all nine bits. -/
def execNot (d : Dst) (s : State) : Result :=
  updateDst (fun dv => wordOfBits (tc dv ^^^ 0x1FF#9)) d s

end Sys2Proof.Machine
end

