-- ==== Sys2Proof/Machine/Control.lean ====
section
/-! DEFINITION. The control-transfer and processor-control instructions (spec/44_control.md). IP already holds the
address after the instruction, as the fetch left it. -/

namespace Sys2Proof.Machine

/-- Jcc (44_control.md R181): the target is the operand's value. -/
def execJcc (c : Digit) (src : Src) (s : State) : Result :=
  .next (if condHolds s.flags c then s.setIp (s.srcValue src) else s)

/-- CALL (44_control.md R182): the target is read before the push of the advanced IP. -/
def execCall (src : Src) (s : State) : Result := .next ((s.push s.ip).setIp (s.srcValue src))

/-- `IP <- Pop()`. -/
def State.popIp (s : State) : State := s.popped.setIp s.popValue

/-- RET (44_control.md R183). -/
def execRet (s : State) : Result := .next s.popIp

/-- RETcc (44_control.md R184): not taken, nothing is read and SP stays. -/
def execRetcc (c : Digit) (s : State) : Result := .next (if condHolds s.flags c then s.popIp else s)

/-- NOP (44_control.md R185). -/
def execNop (s : State) : Result := .next s

/-- HLT (44_control.md R186). -/
def execHlt (s : State) : Result := .next (s.setPstate .idle)

end Sys2Proof.Machine
end

