-- ==== Sys2Proof/Machine/MoveCompare.lean ====
section
/-! DEFINITION. The move and compare instructions (spec/42_move_compare.md). -/

namespace Sys2Proof.Machine

/-- MOV (42_move_compare.md R150). -/
def execMov (d : Dst) (src : Src) (s : State) : Result := storeDst (s.srcValue src) d s

/-- MOVZ (42_move_compare.md R151). -/
def execMovz (d : Dst) (s : State) : Result := storeDst 0 d s

/-- CMP (42_move_compare.md R152). -/
def execCmp (d : Dst) (src : Src) (s : State) : Result := flagsFromDst compareFlags d src s

/-- CMPZ (42_move_compare.md R160). -/
def execCmpz (src : Src) (s : State) : Result := flagsFromSrc signFlags src s

end Sys2Proof.Machine
end

