-- ==== Sys2Proof/Machine/Reserved.lean ====
section
/-! DEFINITION. The reserved and unimplemented encodings (spec/46_reserved.md): each raises Error(UNMAPPED), with no
operand resolved and nothing but PSTATE written (R256). Their digits select nothing. -/

namespace Sys2Proof.Machine

/-- IN, reserved (46_reserved.md R240, R256). -/
def execInp (_m : Digit) (s : State) : Result := raiseError .unmapped s

/-- OUT, reserved (46_reserved.md R241, R256). -/
def execOut (_m : Digit) (s : State) : Result := raiseError .unmapped s

/-- RESERVED_G9_T7, reserved (46_reserved.md R255, R256). -/
def execReservedG9T7 (_x : Digit) (s : State) : Result := raiseError .unmapped s

/-- RESERVED_G9_T8, reserved (46_reserved.md R255, R256). -/
def execReservedG9T8 (_x : Digit) (s : State) : Result := raiseError .unmapped s

/-- LIB, reserved (46_reserved.md R252, R256). -/
def execLib (_x : Word) (s : State) : Result := raiseError .unmapped s

/-- SYS, reserved (46_reserved.md R253, R256). -/
def execSys (_x : Word) (s : State) : Result := raiseError .unmapped s

/-- RESERVED_996, reserved (46_reserved.md R255, R256). -/
def execReserved996 (s : State) : Result := raiseError .unmapped s

/-- RESERVED_997, reserved (46_reserved.md R255, R256). -/
def execReserved997 (s : State) : Result := raiseError .unmapped s

/-- RESERVED_998, reserved (46_reserved.md R255, R256). -/
def execReserved998 (s : State) : Result := raiseError .unmapped s

/-- LEA, reserved (46_reserved.md R242, R256). -/
def execLea (_x : Digit) (s : State) : Result := raiseError .unmapped s

/-- SI, reserved (46_reserved.md R243, R256). -/
def execSi (_x : Digit) (s : State) : Result := raiseError .unmapped s

/-- SO, reserved (46_reserved.md R244, R256). -/
def execSo (_x : Digit) (s : State) : Result := raiseError .unmapped s

/-- RESERVED_G8_T7, reserved (46_reserved.md R255, R256). -/
def execReservedG8T7 (_x : Digit) (s : State) : Result := raiseError .unmapped s

/-- RESERVED_G8_T8, reserved (46_reserved.md R255, R256). -/
def execReservedG8T8 (_x : Digit) (s : State) : Result := raiseError .unmapped s

/-- RESERVED_G89, reserved (46_reserved.md R255, R256). -/
def execReservedG89 (_u : Digit) (s : State) : Result := raiseError .unmapped s

/-- GROUP0, reserved (46_reserved.md R254, R256). -/
def execGroup0 (_t _u : Digit) (s : State) : Result := raiseError .unmapped s

/-- SETCC, reserved (46_reserved.md R245, R256). -/
def execSetcc (_t _u : Digit) (s : State) : Result := raiseError .unmapped s

/-- RESERVED_990_81_89, reserved (46_reserved.md R255, R256). -/
def execReserved990T (_t _x : Digit) (s : State) : Result := raiseError .unmapped s

/-- RESERVED_990_H0, reserved (46_reserved.md R255, R256). -/
def execReserved990H0 (_t _u : Digit) (s : State) : Result := raiseError .unmapped s

/-- RESERVED_990_H9, reserved (46_reserved.md R255, R256). -/
def execReserved990H9 (_t _u : Digit) (s : State) : Result := raiseError .unmapped s

/-- SCAN, reserved (46_reserved.md R246, R256). -/
def execScan (_t _u : Digit) (s : State) : Result := raiseError .unmapped s

/-- LEN, reserved (46_reserved.md R247, R256). -/
def execLen (_t _u : Digit) (s : State) : Result := raiseError .unmapped s

/-- CNT, reserved (46_reserved.md R248, R256). -/
def execCnt (_t _u : Digit) (s : State) : Result := raiseError .unmapped s

/-- ROT, reserved (46_reserved.md R249, R256). -/
def execRot (_t _u : Digit) (s : State) : Result := raiseError .unmapped s

/-- ROTX, reserved (46_reserved.md R250, R256). -/
def execRotx (_x : Digit) (s : State) : Result := raiseError .unmapped s

/-- CLRX, reserved (46_reserved.md R251, R256). -/
def execClrx (_x : Digit) (s : State) : Result := raiseError .unmapped s

/-- RESERVED_890_65_69, reserved (46_reserved.md R255, R256). -/
def execReserved890T (_t _x : Digit) (s : State) : Result := raiseError .unmapped s

/-- RESERVED_890_H0, reserved (46_reserved.md R255, R256). -/
def execReserved890H0 (_t _u : Digit) (s : State) : Result := raiseError .unmapped s

/-- RESERVED_890_H7, reserved (46_reserved.md R255, R256). -/
def execReserved890H7 (_t _u : Digit) (s : State) : Result := raiseError .unmapped s

/-- RESERVED_890_H8, reserved (46_reserved.md R255, R256). -/
def execReserved890H8 (_t _u : Digit) (s : State) : Result := raiseError .unmapped s

/-- RESERVED_890_H9, reserved (46_reserved.md R255, R256). -/
def execReserved890H9 (_t _u : Digit) (s : State) : Result := raiseError .unmapped s

end Sys2Proof.Machine
end

