-- ==== Sys2Proof/Machine/Stack.lean ====
section
/-! DEFINITION. The stack instructions (spec/43_stack.md R172 to R174). -/

namespace Sys2Proof.Machine

/-- PUSH (43_stack.md R172): the source is read before the push. -/
def execPush (src : Src) (s : State) : Result := .next (s.push (s.srcValue src))

/-- POP (43_stack.md R173): the destination is resolved first, then the pop, then the write. -/
def execPop (d : Dst) (s : State) : Result :=
  withDst d s fun l => .next (s.popped.writeLoc l s.popValue)

/-- PUSHZ (43_stack.md R174). -/
def execPushz (s : State) : Result := .next (s.push 0)

end Sys2Proof.Machine
end

