-- ==== Sys2Proof/Machine/Dispatch.lean ====
section
/-! DEFINITION. One arm per constructor of `Instr`, in the order of spec/opcode_table.json. -/

namespace Sys2Proof.Machine

def exec (i : Instr) (s : State) : Host.Outcome State Fault Refusal :=
  match i with
  | .add d src => Sys2Proof.Machine.execAdd d src s
  | .sub d src => Sys2Proof.Machine.execSub d src s
  | .mul d src => Sys2Proof.Machine.execMul d src s
  | .div d src => Sys2Proof.Machine.execDiv d src s
  | .mov d src => Sys2Proof.Machine.execMov d src s
  | .cmp d src => Sys2Proof.Machine.execCmp d src s
  | .jcc c src => Sys2Proof.Machine.execJcc c src s
  | .inc m => Sys2Proof.Machine.execInc m s
  | .dec m => Sys2Proof.Machine.execDec m s
  | .inp m => Sys2Proof.Machine.execInp m s
  | .out m => Sys2Proof.Machine.execOut m s
  | .pop m => Sys2Proof.Machine.execPop m s
  | .push m => Sys2Proof.Machine.execPush m s
  | .call m => Sys2Proof.Machine.execCall m s
  | .reservedG9T7 x => Sys2Proof.Machine.execReservedG9T7 x s
  | .reservedG9T8 x => Sys2Proof.Machine.execReservedG9T8 x s
  | .pushz => Sys2Proof.Machine.execPushz s
  | .ret => Sys2Proof.Machine.execRet s
  | .nop => Sys2Proof.Machine.execNop s
  | .lib x => Sys2Proof.Machine.execLib x s
  | .sys x => Sys2Proof.Machine.execSys x s
  | .reserved996 => Sys2Proof.Machine.execReserved996 s
  | .reserved997 => Sys2Proof.Machine.execReserved997 s
  | .reserved998 => Sys2Proof.Machine.execReserved998 s
  | .hlt => Sys2Proof.Machine.execHlt s
  | .lea x => Sys2Proof.Machine.execLea x s
  | .neg m => Sys2Proof.Machine.execNeg m s
  | .si x => Sys2Proof.Machine.execSi x s
  | .so x => Sys2Proof.Machine.execSo x s
  | .movz m => Sys2Proof.Machine.execMovz m s
  | .cmpz m => Sys2Proof.Machine.execCmpz m s
  | .retcc c => Sys2Proof.Machine.execRetcc c s
  | .reservedG8T7 x => Sys2Proof.Machine.execReservedG8T7 x s
  | .reservedG8T8 x => Sys2Proof.Machine.execReservedG8T8 x s
  | .reservedG89 u => Sys2Proof.Machine.execReservedG89 u s
  | .group0 t u => Sys2Proof.Machine.execGroup0 t u s
  | .or d src => Sys2Proof.Machine.execOr d src s
  | .xor d src => Sys2Proof.Machine.execXor d src s
  | .and d src => Sys2Proof.Machine.execAnd d src s
  | .clr d src => Sys2Proof.Machine.execClr d src s
  | .shl d src => Sys2Proof.Machine.execShl d src s
  | .shr d src => Sys2Proof.Machine.execShr d src s
  | .setcc t u => Sys2Proof.Machine.execSetcc t u s
  | .not m => Sys2Proof.Machine.execNot m s
  | .reserved990T t x => Sys2Proof.Machine.execReserved990T t x s
  | .reserved990H0 t u => Sys2Proof.Machine.execReserved990H0 t u s
  | .reserved990H9 t u => Sys2Proof.Machine.execReserved990H9 t u s
  | .tstm d src => Sys2Proof.Machine.execTstm d src s
  | .scan t u => Sys2Proof.Machine.execScan t u s
  | .len t u => Sys2Proof.Machine.execLen t u s
  | .cnt t u => Sys2Proof.Machine.execCnt t u s
  | .rot t u => Sys2Proof.Machine.execRot t u s
  | .tst m => Sys2Proof.Machine.execTst m s
  | .ctb m => Sys2Proof.Machine.execCtb m s
  | .ctd m => Sys2Proof.Machine.execCtd m s
  | .rotx x => Sys2Proof.Machine.execRotx x s
  | .clrx x => Sys2Proof.Machine.execClrx x s
  | .reserved890T t x => Sys2Proof.Machine.execReserved890T t x s
  | .reserved890H0 t u => Sys2Proof.Machine.execReserved890H0 t u s
  | .reserved890H7 t u => Sys2Proof.Machine.execReserved890H7 t u s
  | .reserved890H8 t u => Sys2Proof.Machine.execReserved890H8 t u s
  | .reserved890H9 t u => Sys2Proof.Machine.execReserved890H9 t u s

end Sys2Proof.Machine
end

