-- ==== Sys2Proof/WellFormed.lean ====
section
/-! DEFINITION. Which instruction terms stand for words of spec/opcode_table.json. The types already bound every
register, digit and word; what remains are the rows whose digit range excludes some digits. -/

namespace Sys2Proof

/-- The digit ranges of the three rows that exclude digits: `89u` with u in 1..9 (890 itself is the prefix,
30_encoding.md R96), `990,8tx` with t in 1..9 (R98) and `890,6tx` with t in 5..9 (R100), where t is the number of the
reserved entry, its digit under the default OPMAP. Every other term is
well formed; a destination with mode digit 0 has an encoding too (R121). -/
def Instr.wellFormed : Instr → Bool
  | .reservedG89 u => decide (1 ≤ u.val)
  | .reserved990T t _ => decide (1 ≤ t.val)
  | .reserved890T t _ => decide (5 ≤ t.val)
  | .add _ _ | .sub _ _ | .mul _ _ | .div _ _ | .mov _ _ | .cmp _ _ | .jcc _ _ | .inc _ | .dec _ => true
  | .inp _ | .out _ | .pop _ | .push _ | .call _ | .reservedG9T7 _ | .reservedG9T8 _ | .pushz | .ret | .nop => true
  | .lib _ | .sys _ | .reserved996 | .reserved997 | .reserved998 | .hlt => true
  | .lea _ | .neg _ | .si _ | .so _ | .movz _ | .cmpz _ | .retcc _ | .reservedG8T7 _ | .reservedG8T8 _ => true
  | .group0 _ _ | .or _ _ | .xor _ _ | .and _ _ | .clr _ _ | .shl _ _ | .shr _ _ | .setcc _ _ | .not _ => true
  | .reserved990H0 _ _ | .reserved990H9 _ _ | .tstm _ _ | .scan _ _ | .len _ _ | .cnt _ _ | .rot _ _ => true
  | .tst _ | .ctb _ | .ctd _ | .rotx _ | .clrx _ => true
  | .reserved890H0 _ _ | .reserved890H7 _ _ | .reserved890H8 _ _ | .reserved890H9 _ _ => true

end Sys2Proof
end

