-- ==== Sys2Proof/Decode.lean ====
section
/-! DEFINITION. The Instruction Decoder (length, spec/30_encoding.md R80 to R86), the Dispatch Engine's digit tables
and the resolver's consumption of extension words (R90 to R124), for every OPMAP and DECODE_CAPS; their values on this
machine, the spec's defaults (log 8, log 9); the encoder; then the reading of numbers as words. -/

namespace Sys2Proof

/-! ### OPMAP and DECODE_CAPS on this machine -/

/-- The default OPMAP: every entry at its own digit (30_encoding.md R92 to R100, D1). -/
def OpMap.default : OpMap :=
  ⟨Equiv.refl Digit, Equiv.refl Digit, Equiv.refl Digit, Equiv.refl Digit, Equiv.refl Digit, Equiv.refl Digit,
    Equiv.refl Digit⟩

/-- No capability. -/
def CapFlags.none : CapFlags := ⟨false, false, false⟩

/-- Destination and source addressing plus immediate source. -/
def CapFlags.full : CapFlags := ⟨true, true, true⟩

/-- The default flags of groups 0 to 7: groups 1 to 6 full, group 7 source-enabled only (30_encoding.md R81). -/
def DecodeCaps.defaultTop (h : Digit) : CapFlags :=
  match h with
  | 1 | 2 | 3 | 4 | 5 | 6 => CapFlags.full
  | 7 => ⟨false, true, false⟩
  | 0 | 8 | 9 => CapFlags.none

/-- The default flags of group 9: INC, DEC, IN destination-enabled, OUT, PUSH, CALL immediate-enabled
(30_encoding.md R81). -/
def DecodeCaps.defaultGroup9 (entry : Digit) : CapFlags :=
  match entry with
  | 0 | 1 | 2 => ⟨true, false, false⟩
  | 3 | 5 | 6 => ⟨false, false, true⟩
  | 4 | 7 | 8 | 9 => CapFlags.none

/-- The default flags of the payloads after 990: OR, XOR, AND, CLR, SHL, SHR full (30_encoding.md R82). -/
def DecodeCaps.defaultPayload990 (entry : Digit) : CapFlags :=
  match entry with
  | 1 | 2 | 3 | 4 | 5 | 6 => CapFlags.full
  | 0 | 7 | 8 | 9 => CapFlags.none

/-- The default flags of the payloads after 890: TSTM full (30_encoding.md R83). -/
def DecodeCaps.defaultPayload890 (entry : Digit) : CapFlags :=
  match entry with
  | 1 => CapFlags.full
  | 0 | 2 | 3 | 4 | 5 | 6 | 7 | 8 | 9 => CapFlags.none

/-- The default DECODE_CAPS, the literal reading of the source (30_encoding.md R81 to R83, D4): group 8 and the two
sub-tables have no capability. -/
def DecodeCaps.default : DecodeCaps where
  top := DecodeCaps.defaultTop
  group8 := fun _ => CapFlags.none
  group9 := DecodeCaps.defaultGroup9
  payload990 := DecodeCaps.defaultPayload990
  sub990 := fun _ => CapFlags.none
  payload890 := DecodeCaps.defaultPayload890
  sub890 := fun _ => CapFlags.none

/-- `OPMAP` on this machine: the spec's default. DESIGN CHOICE, log 8. -/
def Config.opmap : OpMap := OpMap.default

/-- `DECODE_CAPS` on this machine: the spec's default. DESIGN CHOICE, log 9. -/
def Config.decodeCaps : DecodeCaps := DecodeCaps.default

/-! ### Decode length -/

/-- Capability flags with the digits they look at, `dm` and `sm` (30_encoding.md R80). -/
structure Caps where
  flags : CapFlags
  dm : Digit
  sm : Digit
  deriving DecidableEq, Repr

/-- `Caps1(w)`: two-operand words and Jcc look at the digits T and U, the words of groups 8 and 9 at U alone
(30_encoding.md R81). -/
def caps1 (m : OpMap) (c : DecodeCaps) (w : Word) : Caps :=
  match w.hundreds with
  | 8 => ⟨c.group8 (m.group8 w.tens), w.units, w.units⟩
  | 9 => ⟨c.group9 (m.group9 w.tens), w.units, w.units⟩
  | 0 | 1 | 2 | 3 | 4 | 5 | 6 | 7 => ⟨c.top w.hundreds, w.tens, w.units⟩

/-- `Caps990(p)`: the NOT sub-table's words look at U alone (30_encoding.md R82). -/
def caps990 (m : OpMap) (c : DecodeCaps) (p : Word) : Caps :=
  if m.payload990 p.hundreds = 8 then ⟨c.sub990 (m.sub990 p.tens), p.units, p.units⟩
  else ⟨c.payload990 (m.payload990 p.hundreds), p.tens, p.units⟩

/-- `Caps890(p)`: the bit-test sub-table's words look at U alone (30_encoding.md R83). -/
def caps890 (m : OpMap) (c : DecodeCaps) (p : Word) : Caps :=
  if m.payload890 p.hundreds = 6 then ⟨c.sub890 (m.sub890 p.tens), p.units, p.units⟩
  else ⟨c.payload890 (m.payload890 p.hundreds), p.tens, p.units⟩

/-- The three length tests of R80 on top of `base`. -/
def Caps.extend (base : Nat) (c : Caps) : Nat :=
  base + (if c.flags.sE && c.sm == 9 then 1 else 0) + (if c.flags.dE && c.dm == 9 then 1 else 0)
    + (if c.flags.iE && c.sm == 0 then 1 else 0)

/-- The code of LIB: entry 4 of group 99 (30_encoding.md R84, R94). -/
def OpMap.libCode (m : OpMap) : Word := Word.ofDigits 9 9 (m.group99.symm 4)

/-- The code of SYS: entry 5 of group 99 (30_encoding.md R84, R94). -/
def OpMap.sysCode (m : OpMap) : Word := Word.ofDigits 9 9 (m.group99.symm 5)

/-- `DecodeLength(B)` under an OPMAP and DECODE_CAPS (30_encoding.md R80); LIB and SYS always take 2 words (R84). -/
def decodeLengthWith (m : OpMap) (c : DecodeCaps) (b : Buffer) : Nat :=
  if b.w0 = 990 then (caps990 m c b.w1).extend 2
  else if b.w0 = 890 then (caps890 m c b.w1).extend 2
  else if b.w0 = m.libCode ∨ b.w0 = m.sysCode then 2
  else (caps1 m c b.w0).extend 1

/-- `DecodeLength(B)` on this machine. -/
def decodeLength (b : Buffer) : Nat := decodeLengthWith Config.opmap Config.decodeCaps b

/-! ### Operand words, taken at the resolver's cursor -/

/-- The source operand of mode digit `m`, its extension word at the cursor (30_encoding.md R110). -/
def takeSrc (b : Buffer) (cur : Digit) (m : Digit) : Src :=
  match m with
  | 0 => .imm (b.word cur)
  | 1 => .reg .r1
  | 2 => .reg .r2
  | 3 => .reg .r3
  | 4 => .reg .r4
  | 5 => .ind .r1
  | 6 => .ind .r2
  | 7 => .ind .r3
  | 8 => .ind .r4
  | 9 => .abs (b.word cur)

/-- The destination operand of mode digit `m`, its extension word at the cursor (30_encoding.md R110). -/
def takeDst (b : Buffer) (cur : Digit) (m : Digit) : Dst :=
  match m with
  | 0 => .mode0
  | 1 => .reg .r1
  | 2 => .reg .r2
  | 3 => .reg .r3
  | 4 => .reg .r4
  | 5 => .ind .r1
  | 6 => .ind .r2
  | 7 => .ind .r3
  | 8 => .ind .r4
  | 9 => .abs (b.word cur)

/-- The cursor after a destination of mode digit `m`: only mode 9 consumes a word (30_encoding.md R112). -/
def cursorAfterDst (cur : Digit) (m : Digit) : Digit := if m = 9 then cur + 1 else cur

/-- A two-operand form whose digits T and U are D and S: the destination is resolved first (30_encoding.md R113). -/
def takeTwo (mk : Dst → Src → Instr) (b : Buffer) (cur : Digit) (w : Word) : Instr :=
  mk (takeDst b cur w.tens) (takeSrc b (cursorAfterDst cur w.tens) w.units)

/-! ### Dispatch -/

/-- The 990 payload table and its NOT sub-table, by entry (30_encoding.md R97, R98). -/
def decode990 (m : OpMap) (b : Buffer) : Instr :=
  match m.payload990 b.w1.hundreds with
  | 0 => .reserved990H0 b.w1.tens b.w1.units
  | 1 => takeTwo .or b 2 b.w1
  | 2 => takeTwo .xor b 2 b.w1
  | 3 => takeTwo .and b 2 b.w1
  | 4 => takeTwo .clr b 2 b.w1
  | 5 => takeTwo .shl b 2 b.w1
  | 6 => takeTwo .shr b 2 b.w1
  | 7 => .setcc b.w1.tens b.w1.units
  | 8 =>
    if m.sub990 b.w1.tens = 0 then .not (takeDst b 2 b.w1.units)
    else .reserved990T (m.sub990 b.w1.tens) b.w1.units
  | 9 => .reserved990H9 b.w1.tens b.w1.units

/-- The 890 bit-test sub-table, keyed on the payload's tens digit (30_encoding.md R100). -/
def decode890Sub (m : OpMap) (b : Buffer) : Instr :=
  match m.sub890 b.w1.tens with
  | 0 => .tst (takeSrc b 2 b.w1.units)
  | 1 => .ctb (takeDst b 2 b.w1.units)
  | 2 => .ctd (takeDst b 2 b.w1.units)
  | 3 => .rotx b.w1.units
  | 4 => .clrx b.w1.units
  | 5 | 6 | 7 | 8 | 9 => .reserved890T (m.sub890 b.w1.tens) b.w1.units

/-- The 890 payload table (30_encoding.md R99). -/
def decode890 (m : OpMap) (b : Buffer) : Instr :=
  match m.payload890 b.w1.hundreds with
  | 0 => .reserved890H0 b.w1.tens b.w1.units
  | 1 => takeTwo .tstm b 2 b.w1
  | 2 => .scan b.w1.tens b.w1.units
  | 3 => .len b.w1.tens b.w1.units
  | 4 => .cnt b.w1.tens b.w1.units
  | 5 => .rot b.w1.tens b.w1.units
  | 6 => decode890Sub m b
  | 7 => .reserved890H7 b.w1.tens b.w1.units
  | 8 => .reserved890H8 b.w1.tens b.w1.units
  | 9 => .reserved890H9 b.w1.tens b.w1.units

/-- The group 99 table, keyed on the units digit (30_encoding.md R94). -/
def decodeGroup99 (m : OpMap) (b : Buffer) : Instr :=
  match m.group99 b.w0.units with
  | 0 => decode990 m b
  | 1 => .pushz
  | 2 => .ret
  | 3 => .nop
  | 4 => .lib b.w1
  | 5 => .sys b.w1
  | 6 => .reserved996
  | 7 => .reserved997
  | 8 => .reserved998
  | 9 => .hlt

/-- The group 9 table, keyed on the tens digit (30_encoding.md R92). -/
def decodeGroup9 (m : OpMap) (b : Buffer) : Instr :=
  match m.group9 b.w0.tens with
  | 0 => .inc (takeDst b 1 b.w0.units)
  | 1 => .dec (takeDst b 1 b.w0.units)
  | 2 => .inp b.w0.units
  | 3 => .out b.w0.units
  | 4 => .pop (takeDst b 1 b.w0.units)
  | 5 => .push (takeSrc b 1 b.w0.units)
  | 6 => .call (takeSrc b 1 b.w0.units)
  | 7 => .reservedG9T7 b.w0.units
  | 8 => .reservedG9T8 b.w0.units
  | 9 => decodeGroup99 m b

/-- The group 8 table, keyed on the tens digit (30_encoding.md R95), with group 89 (R96). -/
def decodeGroup8 (m : OpMap) (b : Buffer) : Instr :=
  match m.group8 b.w0.tens with
  | 0 => .lea b.w0.units
  | 1 => .neg (takeDst b 1 b.w0.units)
  | 2 => .si b.w0.units
  | 3 => .so b.w0.units
  | 4 => .movz (takeDst b 1 b.w0.units)
  | 5 => .cmpz (takeSrc b 1 b.w0.units)
  | 6 => .retcc b.w0.units
  | 7 => .reservedG8T7 b.w0.units
  | 8 => .reservedG8T8 b.w0.units
  | 9 => if b.w0.units = 0 then decode890 m b else .reservedG89 b.w0.units

/-- The top-level table under an OPMAP, keyed on the hundreds digit of the first word (30_encoding.md R91). Dispatch is total
(R103): every buffer selects exactly one row, so this function rejects nothing. -/
def decodeWith (m : OpMap) (b : Buffer) : Instr :=
  match b.w0.hundreds with
  | 0 => .group0 b.w0.tens b.w0.units
  | 1 => takeTwo .add b 1 b.w0
  | 2 => takeTwo .sub b 1 b.w0
  | 3 => takeTwo .mul b 1 b.w0
  | 4 => takeTwo .div b 1 b.w0
  | 5 => takeTwo .mov b 1 b.w0
  | 6 => takeTwo .cmp b 1 b.w0
  | 7 => .jcc b.w0.tens (takeSrc b 1 b.w0.units)
  | 8 => decodeGroup8 m b
  | 9 => decodeGroup9 m b

/-- The instruction that a buffer holds on this machine. -/
def decode (b : Buffer) : Instr := decodeWith Config.opmap b

/-! ### The encoder -/

/-- The digit 1 to 4 of a register-direct mode (30_encoding.md R72). -/
def MReg.directDigit : MReg → Digit
  | .r1 => 1
  | .r2 => 2
  | .r3 => 3
  | .r4 => 4

/-- The digit 5 to 8 of a register-indirect mode (30_encoding.md R72). -/
def MReg.indirectDigit : MReg → Digit
  | .r1 => 5
  | .r2 => 6
  | .r3 => 7
  | .r4 => 8

/-- The mode digit of a source operand (30_encoding.md R72). -/
def Src.digit : Src → Digit
  | .imm _ => 0
  | .reg r => r.directDigit
  | .ind r => r.indirectDigit
  | .abs _ => 9

/-- The mode digit of a destination operand (30_encoding.md R72). -/
def Dst.digit : Dst → Digit
  | .mode0 => 0
  | .reg r => r.directDigit
  | .ind r => r.indirectDigit
  | .abs _ => 9

/-- The extension words of a source operand (30_encoding.md R112). -/
def Src.ext : Src → List Word
  | .imm v => [v]
  | .reg _ => []
  | .ind _ => []
  | .abs a => [a]

/-- The extension words of a destination operand (30_encoding.md R112). -/
def Dst.ext : Dst → List Word
  | .mode0 => []
  | .reg _ => []
  | .ind _ => []
  | .abs a => [a]

/-- The words of a two-operand form after its leading words: the word `hDS`, then the extension words, the
destination's first (30_encoding.md R71, R113). -/
def encodeTwo (h : Digit) (d : Dst) (s : Src) : List Word :=
  Word.ofDigits h d.digit s.digit :: (d.ext ++ s.ext)

/-- The words of a single-destination form `htM`. -/
def encodeDst (h t : Digit) (m : Dst) : List Word := Word.ofDigits h t m.digit :: m.ext

/-- The words of a single-source form `htM`. -/
def encodeSrc (h t : Digit) (m : Src) : List Word := Word.ofDigits h t m.digit :: m.ext

/-- The words of an instruction under an OPMAP: its opcode words and the extension words its resolver consumes
(30_encoding.md R71; spec/opcode_table.json). -/
def encodeWith (m : OpMap) : Instr → List Word
  | .add d s => encodeTwo 1 d s
  | .sub d s => encodeTwo 2 d s
  | .mul d s => encodeTwo 3 d s
  | .div d s => encodeTwo 4 d s
  | .mov d s => encodeTwo 5 d s
  | .cmp d s => encodeTwo 6 d s
  | .jcc c s => Word.ofDigits 7 c s.digit :: s.ext
  | .inc x => encodeDst 9 (m.group9.symm 0) x
  | .dec x => encodeDst 9 (m.group9.symm 1) x
  | .inp x => [Word.ofDigits 9 (m.group9.symm 2) x]
  | .out x => [Word.ofDigits 9 (m.group9.symm 3) x]
  | .pop x => encodeDst 9 (m.group9.symm 4) x
  | .push x => encodeSrc 9 (m.group9.symm 5) x
  | .call x => encodeSrc 9 (m.group9.symm 6) x
  | .reservedG9T7 x => [Word.ofDigits 9 (m.group9.symm 7) x]
  | .reservedG9T8 x => [Word.ofDigits 9 (m.group9.symm 8) x]
  | .pushz => [Word.ofDigits 9 9 (m.group99.symm 1)]
  | .ret => [Word.ofDigits 9 9 (m.group99.symm 2)]
  | .nop => [Word.ofDigits 9 9 (m.group99.symm 3)]
  | .lib x => [m.libCode, x]
  | .sys x => [m.sysCode, x]
  | .reserved996 => [Word.ofDigits 9 9 (m.group99.symm 6)]
  | .reserved997 => [Word.ofDigits 9 9 (m.group99.symm 7)]
  | .reserved998 => [Word.ofDigits 9 9 (m.group99.symm 8)]
  | .hlt => [999]
  | .lea x => [Word.ofDigits 8 (m.group8.symm 0) x]
  | .neg x => encodeDst 8 (m.group8.symm 1) x
  | .si x => [Word.ofDigits 8 (m.group8.symm 2) x]
  | .so x => [Word.ofDigits 8 (m.group8.symm 3) x]
  | .movz x => encodeDst 8 (m.group8.symm 4) x
  | .cmpz x => encodeSrc 8 (m.group8.symm 5) x
  | .retcc c => [Word.ofDigits 8 (m.group8.symm 6) c]
  | .reservedG8T7 x => [Word.ofDigits 8 (m.group8.symm 7) x]
  | .reservedG8T8 x => [Word.ofDigits 8 (m.group8.symm 8) x]
  | .reservedG89 u => [Word.ofDigits 8 9 u]
  | .group0 t u => [Word.ofDigits 0 t u]
  | .or d s => 990 :: encodeTwo (m.payload990.symm 1) d s
  | .xor d s => 990 :: encodeTwo (m.payload990.symm 2) d s
  | .and d s => 990 :: encodeTwo (m.payload990.symm 3) d s
  | .clr d s => 990 :: encodeTwo (m.payload990.symm 4) d s
  | .shl d s => 990 :: encodeTwo (m.payload990.symm 5) d s
  | .shr d s => 990 :: encodeTwo (m.payload990.symm 6) d s
  | .setcc t u => [990, Word.ofDigits (m.payload990.symm 7) t u]
  | .not x => 990 :: encodeDst (m.payload990.symm 8) (m.sub990.symm 0) x
  | .reserved990T t x => [990, Word.ofDigits (m.payload990.symm 8) (m.sub990.symm t) x]
  | .reserved990H0 t u => [990, Word.ofDigits (m.payload990.symm 0) t u]
  | .reserved990H9 t u => [990, Word.ofDigits (m.payload990.symm 9) t u]
  | .tstm d s => 890 :: encodeTwo (m.payload890.symm 1) d s
  | .scan t u => [890, Word.ofDigits (m.payload890.symm 2) t u]
  | .len t u => [890, Word.ofDigits (m.payload890.symm 3) t u]
  | .cnt t u => [890, Word.ofDigits (m.payload890.symm 4) t u]
  | .rot t u => [890, Word.ofDigits (m.payload890.symm 5) t u]
  | .tst x => 890 :: encodeSrc (m.payload890.symm 6) (m.sub890.symm 0) x
  | .ctb x => 890 :: encodeDst (m.payload890.symm 6) (m.sub890.symm 1) x
  | .ctd x => 890 :: encodeDst (m.payload890.symm 6) (m.sub890.symm 2) x
  | .rotx x => [890, Word.ofDigits (m.payload890.symm 6) (m.sub890.symm 3) x]
  | .clrx x => [890, Word.ofDigits (m.payload890.symm 6) (m.sub890.symm 4) x]
  | .reserved890T t x => [890, Word.ofDigits (m.payload890.symm 6) (m.sub890.symm t) x]
  | .reserved890H0 t u => [890, Word.ofDigits (m.payload890.symm 0) t u]
  | .reserved890H7 t u => [890, Word.ofDigits (m.payload890.symm 7) t u]
  | .reserved890H8 t u => [890, Word.ofDigits (m.payload890.symm 8) t u]
  | .reserved890H9 t u => [890, Word.ofDigits (m.payload890.symm 9) t u]

/-- The words of an instruction on this machine. -/
def encode (i : Instr) : List Word := encodeWith Config.opmap i

/-! ### Reading numbers as words -/

/-- The buffer whose first words are the list's, followed by zeros; words after the tenth are not in the buffer. -/
def Buffer.ofWords (ws : List Word) : Buffer :=
  ⟨ws.getD 0 0, ws.getD 1 0, ws.getD 2 0, ws.getD 3 0, ws.getD 4 0, ws.getD 5 0, ws.getD 6 0, ws.getD 7 0,
    ws.getD 8 0, ws.getD 9 0⟩

/-- Why a list of numbers is no instruction: the one way to be none is to hold a number that is no word. -/
inductive DecodeError where
  /-- the number is above 999, so no cell can hold it (10_state.md R33) -/
  | notAWord (n : Nat)
  deriving DecidableEq, Repr

/-- A number as a word, if it is 0 to 999. -/
def Word.ofNat? (n : Nat) : Option Word := if h : n < 1000 then some ⟨n, h⟩ else none

/-- A list of numbers as words, or the first number that is none. -/
def wordsOfNats : List Nat → Except DecodeError (List Word)
  | [] => .ok []
  | n :: ns =>
    match Word.ofNat? n with
    | none => .error (.notAWord n)
    | some w =>
      match wordsOfNats ns with
      | .error e => .error e
      | .ok ws => .ok (w :: ws)

/-- The instruction at the head of a list of numbers, or the rejection by name. -/
def decodeNats (ns : List Nat) : Except DecodeError Instr :=
  match wordsOfNats ns with
  | .error e => .error e
  | .ok ws => .ok (decode (Buffer.ofWords ws))

/-- The four numbers of the longest instruction in a number of `nbits` bits, 16 bits for each word, the first word
in the lowest bits (log 13: the machine is decimal and has no bit layout of its own). -/
def tableNumbers (nbits w : Nat) : List Nat :=
  [w % 2 ^ nbits % 65536, w % 2 ^ nbits / 65536 % 65536, w % 2 ^ nbits / 4294967296 % 65536,
    w % 2 ^ nbits / 281474976710656 % 65536]

/-- The instruction the decoder reads from an opcode-table row's number (log 13). -/
def decodeTableWord (nbits w : Nat) : Option Instr :=
  match decodeNats (tableNumbers nbits w) with
  | .error _ => none
  | .ok i => some i

end Sys2Proof
end

