-- ==== Sys2Proof/Machine/Fetch.lean ====
section
/-! DEFINITION. FETCH (spec/30_encoding.md R73, R74): the buffer is filled and IP advances by the decode length. -/

namespace Sys2Proof.Machine

/-- The logical address `(IP + k) mod 1000` (30_encoding.md R73, 20_memory.md R65). -/
def State.fetchAddr (s : State) (k : Nat) : Word := Word.wrap (s.ip.val + k)

/-- The ten words at IP, IP+1, ... through the translator (30_encoding.md R73). -/
def State.fetchBuffer (s : State) : Buffer :=
  ⟨s.memRead (s.fetchAddr 0), s.memRead (s.fetchAddr 1), s.memRead (s.fetchAddr 2), s.memRead (s.fetchAddr 3),
    s.memRead (s.fetchAddr 4), s.memRead (s.fetchAddr 5), s.memRead (s.fetchAddr 6), s.memRead (s.fetchAddr 7),
    s.memRead (s.fetchAddr 8), s.memRead (s.fetchAddr 9)⟩

/-- `FETCH()`, which runs in any processor state (30_encoding.md R73, R74; 60_exceptions.md R292). -/
def fetch (s : State) : State :=
  s.setFetched s.fetchBuffer (s.fetchAddr (decodeLength s.fetchBuffer))

/-- The numbers stored at IP, IP+1, ... for `withFetchWord`: the words at the address translation of each. -/
def State.storeAtIp (s : State) : Nat → List Nat → State
  | _, [] => s
  | k, n :: ns => (s.memWrite (s.fetchAddr k) (Word.wrap n)).storeAtIp (k + 1) ns

end Sys2Proof.Machine
end

