-- ==== Sys2Proof/Machine/Execute.lean ====
section
/-! DEFINITION. EXECUTE and the instruction cycle (spec/30_encoding.md R90, spec/70_reset_and_hazards.md R320). -/

namespace Sys2Proof.Machine

/-- `EXECUTE()`: a no-op unless Running; otherwise the instruction in the buffer (30_encoding.md R90). -/
def execute (s : State) : Result :=
  if s.pstate = .running then exec (decode s.buf) s else .next s

/-- FETCH then EXECUTE while Running (70_reset_and_hazards.md R320). Outside Running the core does nothing until the
host acts (60_exceptions.md R274, R282): the state stays as it is (log 11). -/
def cycle (s : State) : Result :=
  if s.pstate = .running then execute (fetch s) else .next s

end Sys2Proof.Machine
end

