-- ==== Sys2Proof/Machine/Step.lean ====
section
/-! DEFINITION. The step, and a state whose next step runs a given instruction. -/

namespace Sys2Proof.Machine

/-- One instruction cycle (spec/70_reset_and_hazards.md R320). -/
def step (s : State) : Host.Outcome State Fault Refusal := cycle s

/-- The state with an opcode-table row's number stored as four words at IP, IP+1, ... and PSTATE = Running, so that
the next step fetches and runs it (log 13, log 14). -/
def State.withFetchWord (s : State) (nbits w : Nat) : State :=
  (s.storeAtIp 0 (tableNumbers nbits w)).setPstate .running

end Sys2Proof.Machine
end

