-- ==== Sys2Proof/Machine/HostInterface.lean ====
section
/-! DEFINITION. The host interface (spec/60_exceptions.md R290 to R298), reset and construction
(spec/70_reset_and_hazards.md R300, R301; spec/10_state.md R41). Every action is one transition of a whole state,
between instructions (R290). These are not steps of the core (log 15). -/

namespace Sys2Proof.Machine

/-- `reset(region)`, the region being the cells from `start` on, `len` of them, as far as memory goes; `len = 0` is the
empty region (70_reset_and_hazards.md R300). XLATT and BUF stay. -/
def hostReset (start : Word) (len : Nat) (s : State) : State where
  mem := Memory.clear s.mem start len
  xlatt := s.xlatt
  gpr := resetRegs
  sp := Config.resetSp
  ip := 0
  flags := Config.resetFlags
  ver := Config.version
  rsv := Config.resetRsv
  buf := s.buf
  lastw := none
  pstate := .running

/-- The state at construction, for a given `INIT_MEM` and `INIT_BUF` (10_state.md R41, 70_reset_and_hazards.md R301). -/
def State.construct (initMem : Table) (initBuf : Buffer) : State :=
  { State.reset with mem := initMem, buf := initBuf, pstate := .idle }

/-- The run request: Idle becomes Running, and nothing else changes (60_exceptions.md R297). -/
def runRequest (s : State) : State :=
  match s.pstate with
  | .idle => s.setPstate .running
  | .running => s
  | .error => s

/-- A host read of `MEM[a]` (60_exceptions.md R294). -/
def hostReadMem (s : State) (a : Word) : Word := Memory.read s.mem a

/-- A host write of a number to `MEM[a]`; LASTW stays (60_exceptions.md R294, 10_state.md R23). -/
def hostWriteMem (a : Word) (n : Nat) (s : State) : Result :=
  if n < 1000 then .next { s with mem := Memory.write s.mem a (Word.wrap n) }
  else .refused (.hostValueNotAWord n)

/-- A host read of a register slot by name; none for an RSV number at or above N_RSV (60_exceptions.md R295).
ZERO reads 0 (10_state.md R27). -/
def hostReadSlot (s : State) : Slot → Option Word
  | .sp => some s.sp
  | .r1 => some s.gpr.r1
  | .r2 => some s.gpr.r2
  | .r3 => some s.gpr.r3
  | .r4 => some s.gpr.r4
  | .r5 => some s.gpr.r5
  | .r6 => some s.gpr.r6
  | .r7 => some s.gpr.r7
  | .r8 => some s.gpr.r8
  | .ip => some s.ip
  | .zero => some 0
  | .flags => some s.flags
  | .ver => some s.ver
  | .rsv k => s.rsv[k]?

/-- The state with a word written to a register slot; a write to ZERO is ignored (60_exceptions.md R295, D26). -/
def setSlot (slot : Slot) (v : Word) (s : State) : State :=
  match slot with
  | .sp => s.setSp v
  | .r1 => s.setReg .r1 v
  | .r2 => s.setReg .r2 v
  | .r3 => s.setReg .r3 v
  | .r4 => s.setReg .r4 v
  | .r5 => s.setReg .r5 v
  | .r6 => s.setReg .r6 v
  | .r7 => s.setReg .r7 v
  | .r8 => s.setReg .r8 v
  | .ip => s.setIp v
  | .zero => s
  | .flags => s.setFlags v
  | .ver => { s with ver := v }
  | .rsv k => { s with rsv := s.rsv.set k v }

/-- A host write of a number to a register slot by name (60_exceptions.md R295, 10_state.md R23). -/
def hostWriteSlot (slot : Slot) (n : Nat) (s : State) : Result :=
  if (hostReadSlot s slot).isNone then .refused .hostNoSuchSlot
  else if n < 1000 then .next (setSlot slot (Word.wrap n) s)
  else .refused (.hostValueNotAWord n)

/-- A number for every slot, in the order the register file lists them; the model's own, and seen by nobody but
through `Config.regIndex`. -/
def slotNumber : Slot → Nat
  | .sp => 0
  | .r1 => 1
  | .r2 => 2
  | .r3 => 3
  | .r4 => 4
  | .r5 => 5
  | .r6 => 6
  | .r7 => 7
  | .r8 => 8
  | .ip => 9
  | .zero => 10
  | .flags => 11
  | .ver => 12
  | .rsv k => k + 13

/-- The slot of a number of `slotNumber`, if the core has it: `N_RSV` reserved slots (10_state.md R32). -/
def slotOfNumber (n : Nat) : Option Slot :=
  match n with
  | 0 => some .sp
  | 1 => some .r1
  | 2 => some .r2
  | 3 => some .r3
  | 4 => some .r4
  | 5 => some .r5
  | 6 => some .r6
  | 7 => some .r7
  | 8 => some .r8
  | 9 => some .ip
  | 10 => some .zero
  | 11 => some .flags
  | 12 => some .ver
  | k + 13 => if k < Config.resetRsv.length then some (.rsv k) else none

/-- The slots of the register file: all but the reserved slots at or above `N_RSV` (10_state.md R20, R32). -/
def slotPresent : Slot → Bool
  | .rsv k => decide (k < Config.resetRsv.length)
  | .sp | .r1 | .r2 | .r3 | .r4 | .r5 | .r6 | .r7 | .r8 | .ip | .zero | .flags | .ver => true

/-- `REG_INDEX`: the index of a slot (60_exceptions.md R295, D27, log 17). -/
def indexOfSlot (slot : Slot) : Nat := Config.regIndex (slotNumber slot)

/-- `REG_INDEX` read backwards: the slot of an index, if it is some slot's (60_exceptions.md R295, D27, log 17). -/
def slotOfIndex (index : Nat) : Option Slot := slotOfNumber (Config.regIndex.symm index)

/-- A host write of a number to a register slot by its index in the open numbering REG_INDEX (60_exceptions.md R295,
D27, log 17). -/
def hostWriteIndex (index n : Nat) (s : State) : Result :=
  match slotOfIndex index with
  | none => .refused .hostNoSuchSlot
  | some slot => hostWriteSlot slot n s

/-- A host read of a register slot by its index in the open numbering REG_INDEX (60_exceptions.md R295, D27, log 17). -/
def hostReadIndex (s : State) (index : Nat) : Option Word :=
  match slotOfIndex index with
  | none => none
  | some slot => hostReadSlot s slot

/-- Editing coercion: text that is no number counts as 0 (60_exceptions.md R298). `none` stands for such text. -/
def coerceEdit (text : Option Nat) : Nat := text.getD 0

/-- The actions of the host that may change the state (60_exceptions.md R290). -/
inductive HostAction where
  | reset (start : Word) (len : Nat)
  | fetch
  | execute
  | writeMem (a : Word) (n : Nat)
  | editMem (a : Word) (text : Option Nat)
  | writeSlot (slot : Slot) (n : Nat)
  | editSlot (slot : Slot) (text : Option Nat)
  | writeIndex (index n : Nat)
  | run
  deriving DecidableEq, Repr

/-- One action of the host (60_exceptions.md R291 to R298). -/
def host (a : HostAction) (s : State) : Result :=
  match a with
  | .reset start len => .next (hostReset start len s)
  | .fetch => .next (Sys2Proof.Machine.fetch s)
  | .execute => Sys2Proof.Machine.execute s
  | .writeMem a n => hostWriteMem a n s
  | .editMem a text => hostWriteMem a (coerceEdit text) s
  | .writeSlot slot n => hostWriteSlot slot n s
  | .editSlot slot text => hostWriteSlot slot (coerceEdit text) s
  | .writeIndex index n => hostWriteIndex index n s
  | .run => .next (runRequest s)

/-- The loaders: a sequence of words written from an address on, wrapping nowhere: cells above 999 do not exist and
take nothing (60_exceptions.md R294, 70_reset_and_hazards.md R302). -/
def hostLoad (start : Nat) (ws : List Word) (s : State) : State :=
  match ws with
  | [] => s
  | w :: rest =>
    hostLoad (start + 1) rest
      (if h : start < 1000 then { s with mem := Memory.write s.mem ⟨start, h⟩ w } else s)

/-! ### Observable outputs -/

/-- `TEXT_LEN` (20_memory.md R58, log 16). -/
def textLen : Nat := 702 + Config.textEndAbove702.val - Config.textBase.val

/-- The text-mapped window: the cells from `TEXT_BASE` on, `TEXT_LEN` of them (20_memory.md R58). -/
def textWindow (s : State) : List Word :=
  (List.range textLen).map fun k => hostReadMem s (Word.wrap (Config.textBase.val + k))

/-- The glyph of a cell's word: the codes 0 to 4 are controls, 48 is 'H' and 79 is 'i'; the rest of the table is not in
the source (20_memory.md R58, log 16). -/
def glyph (w : Word) : Option Char :=
  if w.val ≤ 4 then none
  else if w = 48 then some 'H'
  else if w = 79 then some 'i'
  else Config.glyphOfOtherCode w

/-- What the host can observe between instructions (60_exceptions.md R296). -/
structure Observation where
  pstate : PState
  sp : Word
  gpr : Regs
  ip : Word
  zero : Word
  flags : Word
  ver : Word
  rsv : List Word
  text : List Word
  lastw : Option Word
  deriving DecidableEq, Repr

/-- The observable outputs of a state (60_exceptions.md R296). -/
def observe (s : State) : Observation where
  pstate := s.pstate
  sp := s.sp
  gpr := s.gpr
  ip := s.ip
  zero := 0
  flags := s.flags
  ver := s.ver
  rsv := s.rsv
  text := textWindow s
  lastw := s.lastw

end Sys2Proof.Machine
end

