-- ==== Sys2Proof/Safety.lean ====
section
/-! DEFINITION. What counts as a safe run, the invariant, and the terms in which statements about instructions are
made. -/

namespace Sys2Proof.Machine

/-! ### Stops and the invariant -/

/-- The normal stop: Idle, after HLT (spec/70_reset_and_hazards.md R321). -/
def State.stoppedNormally (s : State) : Prop := s.pstate = .idle

/-- The fatal stop: Error (spec/70_reset_and_hazards.md R321). -/
def State.stoppedFatally (s : State) : Prop := s.pstate = .error

/-- The model's invariant: memory is in canonical form, and the translator is the identity (spec/10_state.md R34). -/
def State.Inv (s : State) : Prop := Memory.wf s.mem ∧ s.xlatt = []

/-- FLAGS holds exactly one of LT, GT, EQ (spec/10_state.md R30). -/
def oneHot (f : Word) : Prop := f = 1 ∨ f = 2 ∨ f = 4

/-! ### Operand values and destinations -/

/-- The value that a destination operand reads as (spec/30_encoding.md R110, R115); mode digit 0 has none, and is
given 0 here only to make the function total. -/
def State.dstValue (s : State) : Dst → Word
  | .mode0 => 0
  | .reg r => s.reg (gregOf r)
  | .ind r => s.memRead (s.reg (gregOf r))
  | .abs a => s.memRead a

/-- `t` is `s` with the word `v` in the cell at logical address `a`, LASTW its physical address, every other cell and
everything else as in `s` (spec/30_encoding.md R116). -/
def StoresAt (a v : Word) (s t : State) : Prop :=
  t = { s with mem := t.mem, lastw := some (s.xlat a) } ∧ Memory.read t.mem (s.xlat a) = v ∧
    ∀ p, p ≠ s.xlat a → Memory.read t.mem p = Memory.read s.mem p

/-- `t` is `s` with the word `v` in register `r`, every other register and everything else, all of memory and LASTW
among them, as in `s` (spec/30_encoding.md R116). -/
def SetsReg (r : GReg) (v : Word) (s t : State) : Prop :=
  t = { s with gpr := t.gpr } ∧ t.reg r = v ∧ ∀ q, q ≠ r → t.reg q = s.reg q

/-- `t` is `s` with the word `v` at the destination `d`, and nothing else changed but LASTW where the destination is
in memory (spec/30_encoding.md R110, R116). No state has a word at a destination of mode digit 0. -/
def PutsAt (d : Dst) (v : Word) (s t : State) : Prop :=
  match d with
  | .mode0 => False
  | .reg r => SetsReg (gregOf r) v s t
  | .ind r => StoresAt (s.reg (gregOf r)) v s t
  | .abs a => StoresAt a v s t

/-- `t` is `s` with `v` pushed: SP one lower mod 1000, the word there, every other cell and everything else, LASTW
among them, as in `s` (spec/43_stack.md R170). -/
def Pushes (v : Word) (s t : State) : Prop :=
  t = { s with mem := t.mem, sp := t.sp } ∧ t.sp.val = (999 + s.sp.val) % 1000 ∧ Memory.read t.mem (s.xlat t.sp) = v ∧
    ∀ p, p ≠ s.xlat t.sp → Memory.read t.mem p = Memory.read s.mem p

/-- `1` where the proposition holds and `0` where it does not: the brackets of the length formulas. -/
def bracket (p : Bool) : Nat := if p then 1 else 0

/-- Whatever words follow, these words decode to `i` and have decode length `n`. -/
def EncodedAs (i : Instr) (ws : List Word) (n : Nat) : Prop :=
  ∀ rest, decode (Buffer.ofWords (ws ++ rest)) = i ∧ decodeLength (Buffer.ofWords (ws ++ rest)) = n

/-- The length formula of a two-operand form on `base` opcode words, `[D=9] + [S=9] + [S=0]` (spec/30_encoding.md R80). -/
def twoOperandLength (base : Nat) (d : Dst) (src : Src) : Nat :=
  base + bracket (d.digit == 9) + bracket (src.digit == 9) + bracket (src.digit == 0)

/-- A two-operand instruction that writes `f` of its operand values to its destination: refused with mode digit 0,
and otherwise completing, for every form, with that word there and nothing else changed. -/
def CombinesAs (mk : Dst → Src → Instr) (f : Word → Word → Nat) : Prop :=
  ∀ (d : Dst) (src : Src) (s : State),
    (d = .mode0 → exec (mk d src) s = .refused .unspecDstMode0) ∧
    (d ≠ .mode0 → ∃ t, exec (mk d src) s = .next t ∧ PutsAt d (Word.wrap (f (s.dstValue d) (s.srcValue src))) s t)

/-- A one-operand instruction that writes `f` of its operand's value back to it, as in `CombinesAs`. -/
def UpdatesAs (mk : Dst → Instr) (f : Word → Nat) : Prop :=
  ∀ (d : Dst) (s : State),
    (d = .mode0 → exec (mk d) s = .refused .unspecDstMode0) ∧
    (d ≠ .mode0 → ∃ t, exec (mk d) s = .next t ∧ PutsAt d (Word.wrap (f (s.dstValue d))) s t)

/-- Each digit of `w` is `f` of the digits of `x` and `y` in its place (spec/45_bitwise.md R204). -/
def DigitWise (f : Nat → Nat → Nat) (x y w : Word) : Prop :=
  w.hundreds.val = f x.hundreds.val y.hundreds.val ∧ w.tens.val = f x.tens.val y.tens.val ∧
    w.units.val = f x.units.val y.units.val

/-- A two-operand instruction that, on digit-decimal operand values, writes to its destination the word whose digits
are `f` of theirs, and changes nothing else (spec/45_bitwise.md R204). -/
def CombinesDigits (mk : Dst → Src → Instr) (f : Nat → Nat → Nat) : Prop :=
  ∀ (d : Dst) (src : Src) (s : State), d ≠ .mode0 → isDigitDecimal (s.dstValue d) = true →
    isDigitDecimal (s.srcValue src) = true →
    ∃ t w, exec (mk d src) s = .next t ∧ PutsAt d w s t ∧ DigitWise f (s.dstValue d) (s.srcValue src) w

/-- The words of a buffer that an unmapped encoding shows under the default OPMAP, as first word and payload
(spec/30_encoding.md R120; log 8). -/
def unmappedWords (w p : Word) : Prop :=
  w.val ≤ 99 ∨ (920 ≤ w.val ∧ w.val ≤ 939) ∨ (970 ≤ w.val ∧ w.val ≤ 989) ∨ (994 ≤ w.val ∧ w.val ≤ 998) ∨
  (800 ≤ w.val ∧ w.val ≤ 809) ∨ (820 ≤ w.val ∧ w.val ≤ 839) ∨ (870 ≤ w.val ∧ w.val ≤ 889) ∨
  (891 ≤ w.val ∧ w.val ≤ 899) ∨
  (w.val = 990 ∧ (p.val ≤ 99 ∨ (700 ≤ p.val ∧ p.val ≤ 799) ∨ 900 ≤ p.val ∨ (810 ≤ p.val ∧ p.val ≤ 899))) ∨
  (w.val = 890 ∧ (p.val ≤ 99 ∨ (200 ≤ p.val ∧ p.val ≤ 599) ∨ 700 ≤ p.val ∨ (630 ≤ p.val ∧ p.val ≤ 699)))

/-- The words of a buffer that an encoding with destination mode digit 0 shows under the default OPMAP
(spec/30_encoding.md R121; log 8). -/
def dstMode0Words (w p : Word) : Prop :=
  (1 ≤ w.val / 100 ∧ w.val / 100 ≤ 6 ∧ w.val / 10 % 10 = 0) ∨
  w.val = 900 ∨ w.val = 910 ∨ w.val = 940 ∨ w.val = 810 ∨ w.val = 840 ∨
  (w.val = 990 ∧ ((1 ≤ p.val / 100 ∧ p.val / 100 ≤ 6 ∧ p.val / 10 % 10 = 0) ∨ p.val = 800)) ∨
  (w.val = 890 ∧ ((100 ≤ p.val ∧ p.val ≤ 109) ∨ p.val = 610 ∨ p.val = 620))

/-- The first word and payload of the shortfall forms under the default OPMAP and DECODE_CAPS
(spec/70_reset_and_hazards.md R311; log 8, log 9). -/
def shortfallWords (w p : Word) : Prop :=
  (700 ≤ w.val ∧ w.val ≤ 799 ∧ w.val % 10 = 0) ∨ w.val = 959 ∨ w.val = 969 ∨ w.val = 949 ∨ w.val = 819 ∨ w.val = 849 ∨
  w.val = 850 ∨ w.val = 859 ∨ (w.val = 990 ∧ p.val = 809) ∨
  (w.val = 890 ∧ (p.val = 600 ∨ p.val = 609 ∨ p.val = 619 ∨ p.val = 629))

/-- Two states that agree on all that instructions can reach: everything but R5 to R8, VER, RSV and LASTW
(spec/10_state.md R22, R31, R32, R36). -/
def SameToInstructions (s t : State) : Prop :=
  t = { s with
    gpr := ⟨s.gpr.r1, s.gpr.r2, s.gpr.r3, s.gpr.r4, t.gpr.r5, t.gpr.r6, t.gpr.r7, t.gpr.r8⟩
    ver := t.ver, rsv := t.rsv, lastw := t.lastw }

/-- The instructions that write FLAGS (spec/10_state.md R28). -/
def writesFlags : Instr → Bool
  | .cmp _ _ | .cmpz _ | .tstm _ _ | .tst _ => true
  | _ => false

/-- The instructions that read FLAGS (spec/10_state.md R29). -/
def readsFlags : Instr → Bool
  | .jcc _ _ | .retcc _ => true
  | _ => false

/-- The instructions that use the stack primitives (spec/10_state.md R24). -/
def usesStack : Instr → Bool
  | .push _ | .pop _ | .pushz | .call _ | .ret | .retcc _ => true
  | _ => false

/-! ### What is stored where -/

/-- The cell of a destination operand, by physical address, if it is in memory (spec/30_encoding.md R116). -/
def dstCell (d : Dst) (s : State) : Option Word :=
  match s.dstLoc d with
  | some (.mem a) => some (s.xlat a)
  | some (.reg _) => none
  | none => none

/-- The one cell that an instruction stores to, by physical address, if it stores at all: its destination's
(spec/30_encoding.md R116), or the one below SP (spec/43_stack.md R170). A DIV by 0 stores nothing
(spec/41_arithmetic.md R133). -/
def storedCell (i : Instr) (s : State) : Option Word :=
  match i with
  | .add d _ | .sub d _ | .mul d _ | .mov d _ | .or d _ | .xor d _ | .and d _ | .clr d _ | .shl d _ | .shr d _ =>
    dstCell d s
  | .div d src => if s.srcValue src = 0 then none else dstCell d s
  | .inc m | .dec m | .neg m | .movz m | .not m | .ctb m | .ctd m | .pop m => dstCell m s
  | .push _ | .pushz | .call _ => some (s.xlat s.spBelow)
  | .cmp _ _ | .cmpz _ | .tstm _ _ | .tst _ | .jcc _ _ | .ret | .retcc _ | .nop | .hlt => none
  | .inp _ | .out _ | .reservedG9T7 _ | .reservedG9T8 _ | .lib _ | .sys _ => none
  | .reserved996 | .reserved997 | .reserved998 => none
  | .lea _ | .si _ | .so _ | .reservedG8T7 _ | .reservedG8T8 _ | .reservedG89 _ | .group0 _ _ => none
  | .setcc _ _ | .reserved990T _ _ | .reserved990H0 _ _ | .reserved990H9 _ _ => none
  | .scan _ _ | .len _ _ | .cnt _ _ | .rot _ _ | .rotx _ | .clrx _ => none
  | .reserved890T _ _ | .reserved890H0 _ _ | .reserved890H7 _ _ | .reserved890H8 _ _ | .reserved890H9 _ _ => none

/-- `n` steps lead from `s` to `t`, and no instruction they run stores to the cell `p`. -/
def RunsKeeping (p : Word) : Nat → State → State → Prop
  | 0, s, t => s = t
  | n + 1, s, t => ∃ u, step s = .next u ∧
      (s.pstate = .running → storedCell (decode s.fetchBuffer) (fetch s) ≠ some p) ∧ RunsKeeping p n u t

end Sys2Proof.Machine
end

