-- ==== Sys2Proof/Certificates/Slice0/Obligations.lean ====
section
/-! DEFINITION. The statements for the provers. A title that says "model" marks what is the model's choice, with its log
entry; "decision D<n>" marks what the spec itself marks as its own decision (spec/92_eei_decisions.md). -/

open Sys2Proof Sys2Proof.Machine

/-! ### Encoding, decoding, length -/

/-- Under every OPMAP that keeps the confirmed digits, and so under the machine's own (log 8), decoding an encoded
well-formed instruction gives it back, whatever words follow. The field positions are decision D2, the order of
extension words D3, the entries and the parameter D1. -/
def Obligations.DecodeOfEncodeGivesTheInstruction : Prop :=
  (∀ (m : OpMap) (i : Instr) (rest : List Word), m.wf → i.wellFormed = true →
    decodeWith m (Buffer.ofWords (encodeWith m i ++ rest)) = i) ∧
  ∀ (i : Instr) (rest : List Word), i.wellFormed = true → decode (Buffer.ofWords (encode i ++ rest)) = i

/-- Under every OPMAP that keeps the confirmed digits, and so under the machine's own (log 8), every buffer decodes to a
well-formed instruction whose encoding is the buffer's first words (decisions D1, D2, D3). -/
def Obligations.EncodeOfDecodeGivesTheWords : Prop :=
  (∀ (m : OpMap) (b : Buffer), m.wf → (decodeWith m b).wellFormed = true ∧
    encodeWith m (decodeWith m b) = b.words.take (encodeWith m (decodeWith m b)).length) ∧
  ∀ b : Buffer, (decode b).wellFormed = true ∧
    encode (decode b) = b.words.take (encode (decode b)).length

/-- Words written out from the spec's encodings decode to the instructions they stand for. CTB and POP have decided
digit numbers (decision D1, log 8); Jcc's positions are decision D2 and the order of two extension words D3. -/
def Obligations.WordsOfTheSpecDecode : Prop :=
  decode (Buffer.ofWords [591, 700]) = .mov (.abs 700) (.reg .r1) ∧
  decode (Buffer.ofWords [110, 5]) = .add (.reg .r1) (.imm 5) ∧
  decode (Buffer.ofWords [590, 300, 42]) = .mov (.abs 300) (.imm 42) ∧
  decode (Buffer.ofWords [599, 300, 301]) = .mov (.abs 300) (.abs 301) ∧
  decode (Buffer.ofWords [733]) = .jcc 3 (.reg .r3) ∧
  decode (Buffer.ofWords [999]) = .hlt ∧
  decode (Buffer.ofWords [990, 199, 300, 301]) = .or (.abs 300) (.abs 301) ∧
  decode (Buffer.ofWords [890, 615]) = .ctb (.ind .r1) ∧
  decode (Buffer.ofWords [949, 300]) = .pop (.abs 300) ∧
  decode (Buffer.ofWords [0]) = .group0 0 0

/-- The decode length is 1 to 4 under every OPMAP and DECODE_CAPS; under the machine's own (log 8, log 9; decisions D1,
D4) it is at most 3 without a prefix, and 4 exactly for the payloads R85 names. -/
def Obligations.DecodeLengthIsOneToFour : Prop :=
  (∀ (m : OpMap) (c : DecodeCaps) (b : Buffer), 1 ≤ decodeLengthWith m c b ∧ decodeLengthWith m c b ≤ 4) ∧
  ∀ b : Buffer, 1 ≤ decodeLength b ∧ decodeLength b ≤ 4 ∧
    (b.w0 ≠ 990 → b.w0 ≠ 890 → decodeLength b ≤ 3) ∧
    (decodeLength b = 4 ↔
      ((b.w0 = 990 ∧ 1 ≤ b.w1.hundreds.val ∧ b.w1.hundreds.val ≤ 6) ∨ (b.w0 = 890 ∧ b.w1.hundreds = 1)) ∧
        b.w1.tens = 9 ∧ (b.w1.units = 0 ∨ b.w1.units = 9))

/-- The words an implemented instruction takes from the buffer number one more than its decode length exactly for the
shortfall forms, and otherwise as many (the list under the default OPMAP, decision D1, log 8, and the default
DECODE_CAPS, decision D4, log 9; both lengths by decision D5). -/
def Obligations.ShortfallFormsAreTheListedOnes : Prop :=
  ∀ b : Buffer, (decode b).isReserved = false →
    (shortfallWords b.w0 b.w1 → (encode (decode b)).length = decodeLength b + 1) ∧
    (¬ shortfallWords b.w0 b.w1 → (encode (decode b)).length = decodeLength b)

/-- The unmapped encodings are exactly those of R120 (under the default OPMAP, decision D1, log 8), and executing one
sets PSTATE to Error and changes nothing else (decision D31). -/
def Obligations.UnmappedEncodingsAreTheListedOnes : Prop :=
  ∀ s : State, ((decode s.buf).isReserved = true ↔ unmappedWords s.buf.w0 s.buf.w1) ∧
    (s.pstate = .running → unmappedWords s.buf.w0 s.buf.w1 → execute s = .next { s with pstate := .error })

/-- Executing is refused exactly in Running on the encodings of R121 with destination mode digit 0 (under the default
OPMAP, decision D1, log 8), by that name (decision D6, log 12); on every other buffer it answers a next state. -/
def Obligations.RefusedEncodingsAreTheListedOnes : Prop :=
  ∀ s : State,
    (∀ r, execute s = .refused r ↔
      s.pstate = .running ∧ dstMode0Words s.buf.w0 s.buf.w1 ∧ r = .unspecDstMode0) ∧
    (¬ (s.pstate = .running ∧ dstMode0Words s.buf.w0 s.buf.w1) → ∃ t, execute s = .next t)

/-- What each mode digit selects, as a source's value and as a destination's location (decisions D6, D24). -/
def Obligations.ModeDigitsSelectTheirOperands : Prop :=
  ∀ (s : State) (b : Buffer) (cur : Digit),
    s.srcValue (takeSrc b cur 0) = b.word cur ∧
    s.srcValue (takeSrc b cur 1) = s.gpr.r1 ∧ s.srcValue (takeSrc b cur 2) = s.gpr.r2 ∧
    s.srcValue (takeSrc b cur 3) = s.gpr.r3 ∧ s.srcValue (takeSrc b cur 4) = s.gpr.r4 ∧
    s.srcValue (takeSrc b cur 5) = s.memRead s.gpr.r1 ∧ s.srcValue (takeSrc b cur 6) = s.memRead s.gpr.r2 ∧
    s.srcValue (takeSrc b cur 7) = s.memRead s.gpr.r3 ∧ s.srcValue (takeSrc b cur 8) = s.memRead s.gpr.r4 ∧
    s.srcValue (takeSrc b cur 9) = s.memRead (b.word cur) ∧
    s.dstLoc (takeDst b cur 0) = none ∧
    s.dstLoc (takeDst b cur 1) = some (.reg .r1) ∧ s.dstLoc (takeDst b cur 2) = some (.reg .r2) ∧
    s.dstLoc (takeDst b cur 3) = some (.reg .r3) ∧ s.dstLoc (takeDst b cur 4) = some (.reg .r4) ∧
    s.dstLoc (takeDst b cur 5) = some (.mem s.gpr.r1) ∧ s.dstLoc (takeDst b cur 6) = some (.mem s.gpr.r2) ∧
    s.dstLoc (takeDst b cur 7) = some (.mem s.gpr.r3) ∧ s.dstLoc (takeDst b cur 8) = some (.mem s.gpr.r4) ∧
    s.dstLoc (takeDst b cur 9) = some (.mem (b.word cur))

/-! ### Fetch and step -/

/-- FETCH fills buffer word k with the memory word at (IP + k) mod 1000, in every processor state (decision D12). -/
def Obligations.FetchFillsTheBufferFromIp : Prop :=
  ∀ (s : State) (k : Digit), (fetch s).buf.word k = s.memRead (Word.wrap (s.ip.val + k.val))

/-- FETCH advances IP by the decode length of the buffer it filled, mod 1000, and writes nothing else. -/
def Obligations.FetchAdvancesIpByTheDecodeLength : Prop :=
  ∀ s : State, (fetch s).ip.val = (s.ip.val + decodeLength (fetch s).buf) % 1000 ∧
    fetch s = { s with buf := (fetch s).buf, ip := (fetch s).ip }

/-- A word written to a cell, by MemWrite, by the host or by whatever led to the state `u`, is what every later fetch
reads from that cell, as long as no instruction run in between stores to it (the wrap of a fetch by decision D12; a
host write outside the words is refused, decision D16). With no step in between it is the next fetch. -/
def Obligations.LaterFetchesSeeStores : Prop :=
  ∀ (n : Nat) (k : Digit) (t : State),
    (∀ (u : State) (p : Word), RunsKeeping p n u t → t.xlat (Word.wrap (t.ip.val + k.val)) = p →
      (fetch t).buf.word k = Memory.read u.mem p) ∧
    (∀ (s : State) (a v : Word), RunsKeeping (s.xlat a) n (s.memWrite a v) t →
      t.xlat (Word.wrap (t.ip.val + k.val)) = s.xlat a → (fetch t).buf.word k = v) ∧
    ∀ (s u : State) (a : Word) (w : Nat), host (.writeMem a w) s = .next u → RunsKeeping a n u t →
      t.xlat (Word.wrap (t.ip.val + k.val)) = a → ((fetch t).buf.word k).val = w

/-- While Running, a step runs the instruction that the words at IP decode to, on the state in which the fetch has
filled the buffer and advanced IP. -/
def Obligations.StepRunsTheDecodedInstruction : Prop :=
  ∀ (s : State) (i : Instr), s.pstate = .running → i.wellFormed = true → decode s.fetchBuffer = i →
    step s = exec i { s with buf := s.fetchBuffer, ip := Word.wrap (s.ip.val + decodeLength s.fetchBuffer) }

/-- Outside Running neither a step nor EXECUTE changes anything (the step there is the model's choice, log 11). -/
def Obligations.CoreDoesNothingOutsideRunning : Prop :=
  ∀ s : State, s.pstate ≠ .running → step s = .next s ∧ execute s = .next s

/-- Error is terminal: EXECUTE changes nothing, the run request changes nothing (R297, decision D16, log 20), and the one
action of the host that leaves it is reset, which ends in Running. -/
def Obligations.OnlyResetLeavesError : Prop :=
  ∀ s : State, s.pstate = .error →
    execute s = .next s ∧ runRequest s = s ∧
    (∀ start len, (hostReset start len s).pstate = .running) ∧
    (∀ a t, host a s = .next t → t.pstate ≠ .error → ∃ start len, a = .reset start len)

/-! ### Arithmetic -/

/-- ADD, SUB and MUL: encoding (extension words by decision D3), decode length, result mod 1000, frame, and the refusal
with mode digit 0 (decision D6, log 12). -/
def Obligations.AddSubMulAreModulo1000 : Prop :=
  (∀ d src, EncodedAs (.add d src) (Word.ofDigits 1 d.digit src.digit :: (d.ext ++ src.ext)) (twoOperandLength 1 d src) ∧
    EncodedAs (.sub d src) (Word.ofDigits 2 d.digit src.digit :: (d.ext ++ src.ext)) (twoOperandLength 1 d src) ∧
    EncodedAs (.mul d src) (Word.ofDigits 3 d.digit src.digit :: (d.ext ++ src.ext)) (twoOperandLength 1 d src)) ∧
  CombinesAs .add (fun dv sv => dv.val + sv.val) ∧
  CombinesAs .sub (fun dv sv => 1000 + dv.val - sv.val) ∧
  CombinesAs .mul (fun dv sv => dv.val * sv.val)

/-- DIV: floor division with a source other than 0; with a source of 0 the Error state and nothing written; the refusal
with mode digit 0 (decision D6, log 12) comes before the zero test (decision D14). Extension words by decision D3. -/
def Obligations.DivDividesOrEntersError : Prop :=
  (∀ d src, EncodedAs (.div d src) (Word.ofDigits 4 d.digit src.digit :: (d.ext ++ src.ext)) (twoOperandLength 1 d src)) ∧
  ∀ (d : Dst) (src : Src) (s : State),
    (d = .mode0 → exec (.div d src) s = .refused .unspecDstMode0) ∧
    (d ≠ .mode0 → s.srcValue src = 0 → exec (.div d src) s = .next { s with pstate := .error }) ∧
    (d ≠ .mode0 → s.srcValue src ≠ 0 → ∃ t, exec (.div d src) s = .next t ∧
      PutsAt d (Word.wrap ((s.dstValue d).val / (s.srcValue src).val)) s t)

/-- INC, DEC and NEG: encoding under the default OPMAP (decision D1, log 8), decode length (decisions D4 and D5, log 9),
result mod 1000, frame, and the refusal with mode digit 0 (decision D6, log 12). -/
def Obligations.IncDecNegAreModulo1000 : Prop :=
  (∀ m, EncodedAs (.inc m) (Word.ofDigits 9 0 m.digit :: m.ext) (1 + bracket (m.digit == 9)) ∧
    EncodedAs (.dec m) (Word.ofDigits 9 1 m.digit :: m.ext) (1 + bracket (m.digit == 9)) ∧
    EncodedAs (.neg m) (Word.ofDigits 8 1 m.digit :: m.ext) 1) ∧
  UpdatesAs .inc (fun dv => dv.val + 1) ∧
  UpdatesAs .dec (fun dv => 1000 + dv.val - 1) ∧
  UpdatesAs .neg (fun dv => 1000 + 0 - dv.val)

/-! ### Move and compare -/

/-- MOV: encoding (the destination's extension word first, decision D3), decode length, the source's value at the
destination, frame, and the refusal with mode digit 0 (decision D6, log 12). -/
def Obligations.MovCopiesTheSource : Prop :=
  (∀ d src, EncodedAs (.mov d src) (Word.ofDigits 5 d.digit src.digit :: (d.ext ++ src.ext)) (twoOperandLength 1 d src)) ∧
  CombinesAs .mov (fun _ sv => sv.val)

/-- MOVZ: 0 at the destination, and the refusal with mode digit 0 (encoding by decision D1, log 8; length by decisions
D4 and D5, log 9; refusal by decision D6, log 12). -/
def Obligations.MovzClearsTheDestination : Prop :=
  (∀ m, EncodedAs (.movz m) (Word.ofDigits 8 4 m.digit :: m.ext) 1) ∧
  UpdatesAs .movz (fun _ => 0)

/-- CMP: FLAGS is 1, 2 or 4 as the destination is below, above or equal to the source, unsigned (decision D29); nothing
else changes (extension words by decision D3; the refusal with mode digit 0 by decision D6, log 12). -/
def Obligations.CmpSetsFlagsByUnsignedOrder : Prop :=
  (∀ d src, EncodedAs (.cmp d src) (Word.ofDigits 6 d.digit src.digit :: (d.ext ++ src.ext)) (twoOperandLength 1 d src)) ∧
  ∀ (d : Dst) (src : Src) (s : State),
    (d = .mode0 → exec (.cmp d src) s = .refused .unspecDstMode0) ∧
    (d ≠ .mode0 →
      ((s.dstValue d).val < (s.srcValue src).val → exec (.cmp d src) s = .next { s with flags := 1 }) ∧
      ((s.srcValue src).val < (s.dstValue d).val → exec (.cmp d src) s = .next { s with flags := 2 }) ∧
      (s.dstValue d = s.srcValue src → exec (.cmp d src) s = .next { s with flags := 4 }))

/-- CMPZ: FLAGS is 1 for 500 to 999, 2 for 1 to 499, 4 for 0; nothing else changes (encoding by decision D1, log 8;
length by decisions D4 and D5, log 9; the source role by decision D7). -/
def Obligations.CmpzSetsFlagsByComplementSign : Prop :=
  (∀ m, EncodedAs (.cmpz m) (Word.ofDigits 8 5 m.digit :: m.ext) 1) ∧
  ∀ (m : Src) (s : State),
    (500 ≤ (s.srcValue m).val → exec (.cmpz m) s = .next { s with flags := 1 }) ∧
    (1 ≤ (s.srcValue m).val → (s.srcValue m).val ≤ 499 → exec (.cmpz m) s = .next { s with flags := 2 }) ∧
    (s.srcValue m = 0 → exec (.cmpz m) s = .next { s with flags := 4 })

/-! ### Stack -/

/-- PUSH and PUSHZ: the source's value, or 0, pushed; LASTW and everything else unchanged (encodings by decision D1,
log 8; lengths by decisions D4 and D5, log 9; LASTW by decision D13). -/
def Obligations.PushStoresBelowTheStackPointer : Prop :=
  (∀ m, EncodedAs (.push m) (Word.ofDigits 9 5 m.digit :: m.ext) (1 + bracket (m.digit == 0))) ∧
  EncodedAs .pushz [991] 1 ∧
  (∀ (m : Src) (s : State), ∃ t, exec (.push m) s = .next t ∧ Pushes (s.srcValue m) s t) ∧
  ∀ s : State, ∃ t, exec .pushz s = .next t ∧ Pushes 0 s t

/-- POP: the word at SP at the destination, whose address is taken before SP moves (decisions D14, D30), and SP one up
mod 1000 (encoding by decision D1, log 8; decode length 1 by decisions D4 and D5, log 9; the refusal with mode digit 0
by decision D6, log 12). -/
def Obligations.PopLoadsFromTheStackPointer : Prop :=
  (∀ m, EncodedAs (.pop m) (Word.ofDigits 9 4 m.digit :: m.ext) 1) ∧
  ∀ (d : Dst) (s : State),
    (d = .mode0 → exec (.pop d) s = .refused .unspecDstMode0) ∧
    (d ≠ .mode0 → ∃ t, exec (.pop d) s = .next t ∧
      PutsAt d (s.memRead s.sp) { s with sp := Word.wrap (s.sp.val + 1) } t)

/-- A POP into a register right after a PUSH gets the pushed value, and SP is back where it was. -/
def Obligations.PopAfterPushReturnsThePushedValue : Prop :=
  ∀ (m : Src) (r : MReg) (s : State), ∃ t u, exec (.push m) s = .next t ∧ exec (.pop (.reg r)) t = .next u ∧
    u.sp = s.sp ∧ u.reg (gregOf r) = s.srcValue m ∧ ∀ q, q ≠ gregOf r → u.reg q = s.reg q

/-! ### Control transfer -/

/-- Jcc: IP becomes the operand's value exactly when FLAGS AND C is not 0 (digit positions by decision D2, length by
decisions D4 and D5, log 9, C of 8 and 9 by decision D21); nothing else changes. -/
def Obligations.JccJumpsWhenAMaskedFlagIsSet : Prop :=
  (∀ c src, EncodedAs (.jcc c src) (Word.ofDigits 7 c src.digit :: src.ext) (1 + bracket (src.digit == 9))) ∧
  ∀ (c : Digit) (src : Src) (s : State),
    (s.flags.val &&& c.val ≠ 0 → exec (.jcc c src) s = .next { s with ip := s.srcValue src }) ∧
    (s.flags.val &&& c.val = 0 → exec (.jcc c src) s = .next s)

/-- CALL: the advanced IP pushed and IP the operand's value, read before the push (decision D14; encoding by decision
D1, log 8; length by decisions D4 and D5, log 9). -/
def Obligations.CallPushesIpAndJumps : Prop :=
  (∀ m, EncodedAs (.call m) (Word.ofDigits 9 6 m.digit :: m.ext) (1 + bracket (m.digit == 0))) ∧
  ∀ (m : Src) (s : State), ∃ t, exec (.call m) s = .next { t with ip := s.srcValue m } ∧ Pushes s.ip s t

/-- RET, and RETcc when FLAGS AND C is not 0, pop into IP; RETcc otherwise changes nothing (encodings by decisions D1,
log 8, and D2; C of 8 and 9 by decision D21). -/
def Obligations.ReturnsPopIntoIp : Prop :=
  EncodedAs .ret [992] 1 ∧ (∀ c, EncodedAs (.retcc c) [Word.ofDigits 8 6 c] 1) ∧
  (∀ s : State, exec .ret s = .next { s with ip := s.memRead s.sp, sp := Word.wrap (s.sp.val + 1) }) ∧
  ∀ (c : Digit) (s : State),
    (s.flags.val &&& c.val ≠ 0 →
      exec (.retcc c) s = .next { s with ip := s.memRead s.sp, sp := Word.wrap (s.sp.val + 1) }) ∧
    (s.flags.val &&& c.val = 0 → exec (.retcc c) s = .next s)

/-- HLT, the word 999, makes PSTATE Idle and changes nothing else. -/
def Obligations.HltGoesIdle : Prop :=
  EncodedAs .hlt [999] 1 ∧ ∀ s : State, exec .hlt s = .next { s with pstate := .idle }

/-- NOP changes nothing (encoding by decision D1, log 8). -/
def Obligations.NopChangesNothing : Prop :=
  EncodedAs .nop [993] 1 ∧ ∀ s : State, exec .nop s = .next s

/-- The condition digits that hold for FLAGS of 1, 2, 4 and 0 (digits 8 and 9 by decision D21). -/
def Obligations.ConditionDigitsTestTheFlagMask : Prop :=
  ∀ c : Digit,
    (condHolds 1 c = true ↔ c = 1 ∨ c = 3 ∨ c = 5 ∨ c = 7 ∨ c = 9) ∧
    (condHolds 2 c = true ↔ c = 2 ∨ c = 3 ∨ c = 6 ∨ c = 7) ∧
    (condHolds 4 c = true ↔ c = 4 ∨ c = 5 ∨ c = 6 ∨ c = 7) ∧
    condHolds 0 c = false

/-! ### Transcoding, bitwise logic, bit test -/

/-- `tc` and `tcinv` are inverse between the digit-decimal words and 0 to 511, and 0 outside (bit order by decision D9,
`tcinv` above 511 by decision D22). -/
def Obligations.TranscodingIsABijectionOnItsDomain : Prop :=
  (∀ h t u : Fin 8, tc (Word.ofDigits (h.castLE (by decide)) (t.castLE (by decide)) (u.castLE (by decide)))
      = BitVec.ofNat 9 (64 * h.val + 8 * t.val + u.val)) ∧
  (∀ x : Word, (7 < x.hundreds.val ∨ 7 < x.tens.val ∨ 7 < x.units.val) → tc x = 0) ∧
  (∀ x : Word, x.hundreds.val ≤ 7 → x.tens.val ≤ 7 → x.units.val ≤ 7 → tcinv (Word.wrap (tc x).toNat) = x) ∧
  (∀ y : Word, y.val ≤ 511 → (tc (tcinv y)).toNat = y.val) ∧
  (∀ y : Word, 511 < y.val → tcinv y = 0) ∧
  (∀ y : BitVec 9, wordOfBits y = tcinv (Word.wrap y.toNat))

/-- On digit-decimal values OR, XOR, AND and CLR act digit by digit, NOT replaces each digit d by 7 - d, and a shift by
3 moves whole digits: first of the words that transcoding gives, then of what the instructions write, with nothing else
changed (bit order of the shifts by decision D9). -/
def Obligations.LogicActsDigitByDigit : Prop :=
  (∀ x y : Word, isDigitDecimal x = true → isDigitDecimal y = true →
    DigitWise (· ||| ·) x y (wordOfBits (tc x ||| tc y)) ∧
    DigitWise (· ^^^ ·) x y (wordOfBits (tc x ^^^ tc y)) ∧
    DigitWise (· &&& ·) x y (wordOfBits (tc x &&& tc y)) ∧
    DigitWise (fun a b => a &&& (7 - b)) x y (wordOfBits (tc x &&& (tc y ^^^ 0x1FF#9))) ∧
    DigitWise (fun a _ => 7 - a) x y (wordOfBits (tc x ^^^ 0x1FF#9))) ∧
  CombinesDigits .or (· ||| ·) ∧ CombinesDigits .xor (· ^^^ ·) ∧ CombinesDigits .and (· &&& ·) ∧
  CombinesDigits .clr (fun a b => a &&& (7 - b)) ∧
  (∀ (d : Dst) (s : State), d ≠ .mode0 → isDigitDecimal (s.dstValue d) = true →
    ∃ t w, exec (.not d) s = .next t ∧ PutsAt d w s t ∧ DigitWise (fun a _ => 7 - a) (s.dstValue d) 0 w) ∧
  ∀ (d : Dst) (src : Src) (s : State), d ≠ .mode0 → isDigitDecimal (s.dstValue d) = true →
    (s.srcValue src).val % 10 = 3 →
    (∃ t, exec (.shl d src) s = .next t ∧
      PutsAt d (Word.ofDigits (s.dstValue d).tens (s.dstValue d).units 0) s t) ∧
    ∃ t, exec (.shr d src) s = .next t ∧
      PutsAt d (Word.ofDigits 0 (s.dstValue d).hundreds (s.dstValue d).tens) s t

/-- OR, XOR, AND and CLR: encoding (digit positions by decision D2, extension words by D3), decode length, result on
transcoded values (bit order by decision D9), frame with FLAGS unchanged (decision D8), and the refusal with mode digit
0 (decision D6, log 12). -/
def Obligations.BitLogicActsOnTranscodedValues : Prop :=
  (∀ d src,
    EncodedAs (.or d src) (990 :: Word.ofDigits 1 d.digit src.digit :: (d.ext ++ src.ext)) (twoOperandLength 2 d src) ∧
    EncodedAs (.xor d src) (990 :: Word.ofDigits 2 d.digit src.digit :: (d.ext ++ src.ext)) (twoOperandLength 2 d src) ∧
    EncodedAs (.and d src) (990 :: Word.ofDigits 3 d.digit src.digit :: (d.ext ++ src.ext)) (twoOperandLength 2 d src) ∧
    EncodedAs (.clr d src) (990 :: Word.ofDigits 4 d.digit src.digit :: (d.ext ++ src.ext)) (twoOperandLength 2 d src)) ∧
  CombinesAs .or (fun dv sv => (wordOfBits (tc dv ||| tc sv)).val) ∧
  CombinesAs .xor (fun dv sv => (wordOfBits (tc dv ^^^ tc sv)).val) ∧
  CombinesAs .and (fun dv sv => (wordOfBits (tc dv &&& tc sv)).val) ∧
  CombinesAs .clr (fun dv sv => (wordOfBits (tc dv &&& (tc sv ^^^ 0x1FF#9))).val)

/-- SHL and SHR: the shift amount is the source's plain value mod 10, and the shift is of the 9-bit number, by powers of
two (bit order by decision D9; positions and extension words by D2 and D3; FLAGS unchanged by D8; the refusal with mode
digit 0 by D6, log 12). -/
def Obligations.ShiftsMoveTranscodedBits : Prop :=
  (∀ d src,
    EncodedAs (.shl d src) (990 :: Word.ofDigits 5 d.digit src.digit :: (d.ext ++ src.ext)) (twoOperandLength 2 d src) ∧
    EncodedAs (.shr d src) (990 :: Word.ofDigits 6 d.digit src.digit :: (d.ext ++ src.ext)) (twoOperandLength 2 d src)) ∧
  CombinesAs .shl (fun dv sv => (wordOfBits (BitVec.ofNat 9 ((tc dv).toNat * 2 ^ (sv.val % 10)))).val) ∧
  CombinesAs .shr (fun dv sv => (wordOfBits (BitVec.ofNat 9 ((tc dv).toNat / 2 ^ (sv.val % 10)))).val)

/-- NOT: all nine bits complemented, so 511 minus the transcoded value (encoding by decision D1,
log 8; length by D5, log 9; FLAGS unchanged by D8; the refusal with mode digit 0 by D6, log 12). -/
def Obligations.NotComplementsNineBits : Prop :=
  (∀ m, EncodedAs (.not m) (990 :: Word.ofDigits 8 0 m.digit :: m.ext) 2) ∧
  UpdatesAs .not (fun dv => (wordOfBits (BitVec.ofNat 9 (511 - (tc dv).toNat))).val)

/-- TSTM and TST: FLAGS is the class of the tested value under the machine's own probe (a free value, log 7), and
under every probe the class is 1, 2 or 4 as none, all or some of the probed bits are set, the first test winning
(decision D10); nothing else changes (encodings by decision D1, log 8, and D2, D3; TST's length by D5, log 9, and its
source role by decision D7; TSTM's refusal with mode digit 0 by D6, log 12). -/
def Obligations.BitTestsClassifyUnderTheProbe : Prop :=
  (∀ d src, EncodedAs (.tstm d src) (890 :: Word.ofDigits 1 d.digit src.digit :: (d.ext ++ src.ext))
    (twoOperandLength 2 d src)) ∧
  (∀ m, EncodedAs (.tst m) (890 :: Word.ofDigits 6 0 m.digit :: m.ext) 2) ∧
  (∀ (d : Dst) (src : Src) (s : State),
    (d = .mode0 → exec (.tstm d src) s = .refused .unspecDstMode0) ∧
    (d ≠ .mode0 → exec (.tstm d src) s =
      .next { s with flags := classifyUnder Config.tstProbe (tc (s.dstValue d) &&& tc (s.srcValue src)) })) ∧
  (∀ (m : Src) (s : State),
    exec (.tst m) s = .next { s with flags := classifyUnder Config.tstProbe (tc (s.srcValue m)) }) ∧
  ∀ probe t1 : BitVec 9,
    (t1 &&& probe = 0 → classifyUnder probe t1 = 1) ∧
    (t1 &&& probe ≠ 0 → t1 &&& probe = probe → classifyUnder probe t1 = 2) ∧
    (t1 &&& probe ≠ 0 → t1 &&& probe ≠ probe → classifyUnder probe t1 = 4)

/-- CTB writes the packed value as a number, CTD the digit-decimal word of a number (encodings by decision D1,
log 8; lengths by D5, log 9; CTD above 511 by D22; the refusal with mode digit 0 by D6, log 12). -/
def Obligations.ConversionsTranscodeTheDestination : Prop :=
  (∀ m, EncodedAs (.ctb m) (890 :: Word.ofDigits 6 1 m.digit :: m.ext) 2 ∧
    EncodedAs (.ctd m) (890 :: Word.ofDigits 6 2 m.digit :: m.ext) 2) ∧
  UpdatesAs .ctb (fun dv => (tc dv).toNat) ∧
  UpdatesAs .ctd (fun dv => (tcinv dv).val)

/-! ### Reserved encodings and faults -/

/-- Group 0, the words 0 to 99: length 1, the Error state, nothing else changed (R256, decision D31, log 20). -/
def Obligations.GroupZeroEntersError : Prop :=
  ∀ t u : Digit, EncodedAs (.group0 t u) [Word.ofDigits 0 t u] 1 ∧
    ∀ s : State, exec (.group0 t u) s = .next { s with pstate := .error }

/-- The named reserved operations: their encodings (decision D1, log 8) and lengths, and the Error state with nothing
else changed (decision D31). -/
def Obligations.NamedReservedOperationsEnterError : Prop :=
  (∀ m : Digit, EncodedAs (.inp m) [Word.ofDigits 9 2 m] (1 + bracket (m == 9)) ∧
    EncodedAs (.out m) [Word.ofDigits 9 3 m] (1 + bracket (m == 0)) ∧
    EncodedAs (.lea m) [Word.ofDigits 8 0 m] 1 ∧ EncodedAs (.si m) [Word.ofDigits 8 2 m] 1 ∧
    EncodedAs (.so m) [Word.ofDigits 8 3 m] 1 ∧ EncodedAs (.rotx m) [890, Word.ofDigits 6 3 m] 2 ∧
    EncodedAs (.clrx m) [890, Word.ofDigits 6 4 m] 2) ∧
  (∀ t u : Digit, EncodedAs (.setcc t u) [990, Word.ofDigits 7 t u] 2 ∧
    EncodedAs (.scan t u) [890, Word.ofDigits 2 t u] 2 ∧ EncodedAs (.len t u) [890, Word.ofDigits 3 t u] 2 ∧
    EncodedAs (.cnt t u) [890, Word.ofDigits 4 t u] 2 ∧ EncodedAs (.rot t u) [890, Word.ofDigits 5 t u] 2) ∧
  (∀ x : Word, EncodedAs (.lib x) [994, x] 2 ∧ EncodedAs (.sys x) [995, x] 2) ∧
  (∀ (m : Digit) (s : State), exec (.inp m) s = .next { s with pstate := .error } ∧
    exec (.out m) s = .next { s with pstate := .error } ∧ exec (.lea m) s = .next { s with pstate := .error } ∧
    exec (.si m) s = .next { s with pstate := .error } ∧ exec (.so m) s = .next { s with pstate := .error } ∧
    exec (.rotx m) s = .next { s with pstate := .error } ∧ exec (.clrx m) s = .next { s with pstate := .error }) ∧
  (∀ (t u : Digit) (s : State), exec (.setcc t u) s = .next { s with pstate := .error } ∧
    exec (.scan t u) s = .next { s with pstate := .error } ∧ exec (.len t u) s = .next { s with pstate := .error } ∧
    exec (.cnt t u) s = .next { s with pstate := .error } ∧ exec (.rot t u) s = .next { s with pstate := .error }) ∧
  (∀ (x : Word) (s : State), exec (.lib x) s = .next { s with pstate := .error } ∧
    exec (.sys x) s = .next { s with pstate := .error })

/-- The unnamed reserved entries: their encodings (decision D1, log 8) and lengths, and the Error state with nothing
else changed (decision D31). -/
def Obligations.UnnamedReservedEntriesEnterError : Prop :=
  (∀ x : Digit, EncodedAs (.reservedG9T7 x) [Word.ofDigits 9 7 x] 1 ∧
    EncodedAs (.reservedG9T8 x) [Word.ofDigits 9 8 x] 1 ∧ EncodedAs (.reservedG8T7 x) [Word.ofDigits 8 7 x] 1 ∧
    EncodedAs (.reservedG8T8 x) [Word.ofDigits 8 8 x] 1 ∧
    (x ≠ 0 → EncodedAs (.reservedG89 x) [Word.ofDigits 8 9 x] 1)) ∧
  EncodedAs .reserved996 [996] 1 ∧ EncodedAs .reserved997 [997] 1 ∧ EncodedAs .reserved998 [998] 1 ∧
  (∀ t u : Digit, EncodedAs (.reserved990H0 t u) [990, Word.ofDigits 0 t u] 2 ∧
    EncodedAs (.reserved990H9 t u) [990, Word.ofDigits 9 t u] 2 ∧
    EncodedAs (.reserved890H0 t u) [890, Word.ofDigits 0 t u] 2 ∧
    EncodedAs (.reserved890H7 t u) [890, Word.ofDigits 7 t u] 2 ∧
    EncodedAs (.reserved890H8 t u) [890, Word.ofDigits 8 t u] 2 ∧
    EncodedAs (.reserved890H9 t u) [890, Word.ofDigits 9 t u] 2 ∧
    (1 ≤ t.val → EncodedAs (.reserved990T t u) [990, Word.ofDigits 8 t u] 2) ∧
    (5 ≤ t.val → EncodedAs (.reserved890T t u) [890, Word.ofDigits 6 t u] 2)) ∧
  (∀ (x : Digit) (s : State), exec (.reservedG9T7 x) s = .next { s with pstate := .error } ∧
    exec (.reservedG9T8 x) s = .next { s with pstate := .error } ∧
    exec (.reservedG8T7 x) s = .next { s with pstate := .error } ∧
    exec (.reservedG8T8 x) s = .next { s with pstate := .error } ∧
    exec (.reservedG89 x) s = .next { s with pstate := .error }) ∧
  (∀ s : State, exec .reserved996 s = .next { s with pstate := .error } ∧
    exec .reserved997 s = .next { s with pstate := .error } ∧
    exec .reserved998 s = .next { s with pstate := .error }) ∧
  (∀ (t u : Digit) (s : State), exec (.reserved990H0 t u) s = .next { s with pstate := .error } ∧
    exec (.reserved990H9 t u) s = .next { s with pstate := .error } ∧
    exec (.reserved890H0 t u) s = .next { s with pstate := .error } ∧
    exec (.reserved890H7 t u) s = .next { s with pstate := .error } ∧
    exec (.reserved890H8 t u) s = .next { s with pstate := .error } ∧
    exec (.reserved890H9 t u) s = .next { s with pstate := .error } ∧
    exec (.reserved990T t u) s = .next { s with pstate := .error } ∧
    exec (.reserved890T t u) s = .next { s with pstate := .error })

/-- A step that enters Error has advanced IP past the instruction and filled the buffer, and saved, written and undone
nothing else (no write before the fault: R273, R278, by decisions D14 and D31); after it EXECUTE does nothing. -/
def Obligations.EnteringErrorSavesNothing : Prop :=
  ∀ s t : State, s.pstate = .running → step s = .next t → t.pstate = .error →
    t = { s with buf := s.fetchBuffer, ip := t.ip, pstate := .error } ∧
    t.ip.val = (s.ip.val + decodeLength s.fetchBuffer) % 1000 ∧
    execute t = .next t

/-- The transitions of PSTATE: construction, reset, the run request, HLT, the two fatal conditions; every other
instruction and every other action of the host leaves it. -/
def Obligations.ProcessorStateTransitions : Prop :=
  (∀ m b, (State.construct m b).pstate = .idle) ∧
  (∀ start len s, (hostReset start len s).pstate = .running) ∧
  (∀ s, s.pstate = .idle → (runRequest s).pstate = .running) ∧
  (∀ s, s.pstate ≠ .idle → (runRequest s).pstate = s.pstate) ∧
  (∀ i s t, s.pstate = .running → exec i s = .next t →
    (i = .hlt → t.pstate = .idle) ∧
    ((i.isReserved = true ∨ ∃ d src, i = .div d src ∧ s.srcValue src = 0) → t.pstate = .error) ∧
    (i ≠ .hlt → i.isReserved = false → (∀ d src, i = .div d src → s.srcValue src ≠ 0) → t.pstate = .running)) ∧
  (∀ a s t, host a s = .next t → t.pstate ≠ s.pstate → (∃ start len, a = .reset start len) ∨ a = .run ∨ a = .execute)

/-! ### Whole-machine rules over all instructions -/

/-- FLAGS is written by CMP, CMPZ, TSTM and TST only, each leaving exactly one of 1, 2, 4 (decision D8). -/
def Obligations.OnlyComparesAndBitTestsWriteFlags : Prop :=
  ∀ i s t, exec i s = .next t →
    (writesFlags i = false → t.flags = s.flags) ∧ (writesFlags i = true → oneHot t.flags)

/-- FLAGS is read by Jcc and RETcc only, and by them through the condition test: what any other instruction does does
not depend on it, and what these do depends on the outcome of the test alone. Which instructions leave FLAGS as it was
is R28, decision D8 (log 20). -/
def Obligations.OnlyConditionalsReadFlags : Prop :=
  (∀ (i : Instr) (s : State) (f : Word), readsFlags i = false →
    match exec i s, exec i { s with flags := f } with
    | .next t, .next u => u = { t with flags := u.flags } ∧ (writesFlags i = true → u.flags = t.flags) ∧
        (writesFlags i = false → u.flags = f)
    | .refused a, .refused b => a = b
    | _, _ => False) ∧
  ∀ (c : Digit) (s : State) (f : Word), condHolds s.flags c = condHolds f c →
    (∀ src, ∃ t, exec (.jcc c src) s = .next t ∧ exec (.jcc c src) { s with flags := f } = .next { t with flags := f }) ∧
    ∃ t, exec (.retcc c) s = .next t ∧ exec (.retcc c) { s with flags := f } = .next { t with flags := f }

/-- SP is read and written by the stack instructions only: any other instruction leaves it, and does not depend on it. -/
def Obligations.OnlyStackInstructionsUseSp : Prop :=
  ∀ (i : Instr) (s : State) (v : Word), usesStack i = false →
    match exec i s, exec i { s with sp := v } with
    | .next t, .next u => t.sp = s.sp ∧ u = { t with sp := v }
    | .refused a, .refused b => a = b
    | _, _ => False

/-- R5 to R8, VER and RSV are read and written by no step, and LASTW is read by none: two states that differ only in
them step to states that differ only in them. -/
def Obligations.StepsDoNotReachHostOnlyRegisters : Prop :=
  ∀ s s' : State, SameToInstructions s s' →
    match step s, step s' with
    | .next t, .next t' => SameToInstructions t t' ∧ t.gpr.r5 = s.gpr.r5 ∧ t.gpr.r6 = s.gpr.r6 ∧
        t.gpr.r7 = s.gpr.r7 ∧ t.gpr.r8 = s.gpr.r8 ∧ t.ver = s.ver ∧ t.rsv = s.rsv
    | .refused a, .refused b => a = b
    | _, _ => False

/-- Every instruction stores to at most the one cell that `storedCell` computes: every other cell, and the translator,
are as before (the address resolved before anything is written: decision D14). -/
def Obligations.InstructionsStoreOnlyToTheirCell : Prop :=
  ∀ (i : Instr) (s t : State), exec i s = .next t →
    t.xlatt = s.xlatt ∧ ∀ p : Word, storedCell i s ≠ some p → Memory.read t.mem p = Memory.read s.mem p

/-! ### Invariants -/

/-- The state after reset has canonical memory and the identity translator. -/
def Obligations.ResetStateMeetsTheInvariant : Prop := State.reset.Inv

/-- Every step keeps memory canonical and the translator the identity, from every state that has them. -/
def Obligations.EveryStepKeepsTheInvariant : Prop :=
  ∀ s t : State, s.Inv → step s = .next t → t.Inv

/-- Every action of the host keeps memory canonical and the translator the identity. -/
def Obligations.EveryHostActionKeepsTheInvariant : Prop :=
  ∀ (a : HostAction) (s t : State), s.Inv → host a s = .next t → t.Inv

/-- Once FLAGS holds exactly one of 1, 2, 4, every step keeps it so. -/
def Obligations.EveryStepKeepsFlagsOneHot : Prop :=
  ∀ s t : State, oneHot s.flags → step s = .next t → oneHot t.flags

/-! ### Memory, reset and the host -/

/-- MemRead returns MEM[XLAT(a)]; MemWrite sets MEM[XLAT(a)] to v and changes nothing else, LASTW included. -/
def Obligations.MemoryWritesAreReadBack : Prop :=
  ∀ (s : State) (a v : Word),
    s.memRead a = Memory.read s.mem (s.xlat a) ∧
    Memory.read (s.memWrite a v).mem (s.xlat a) = v ∧
    (∀ p, p ≠ s.xlat a → Memory.read (s.memWrite a v).mem p = Memory.read s.mem p) ∧
    s.memWrite a v = { s with mem := (s.memWrite a v).mem }

/-- Reset: IP 0, PSTATE Running, LASTW none, the open registers at the configured values (log 3, log 4), the region
cleared, the other cells, XLATT and BUF unchanged (decisions D11, D13, D17). A region that runs past cell 999 ends
there, which is the model's choice (log 15). -/
def Obligations.ResetClearsItsRegionOnly : Prop :=
  ∀ (start : Word) (len : Nat) (s : State),
    let t := hostReset start len s
    t.ip = 0 ∧ t.pstate = .running ∧ t.lastw = none ∧ t.sp = Config.resetSp ∧
    t.gpr = ⟨Config.resetR 0, Config.resetR 1, Config.resetR 2, Config.resetR 3, Config.resetR 4, Config.resetR 5,
      Config.resetR 6, Config.resetR 7⟩ ∧
    t.flags = Config.resetFlags ∧ t.ver = Config.version ∧ t.rsv = Config.resetRsv ∧
    t.xlatt = s.xlatt ∧ t.buf = s.buf ∧
    ∀ p : Word, Memory.read t.mem p =
      if start.val ≤ p.val ∧ p.val < start.val + len then 0 else Memory.read s.mem p

/-- The model's `State.reset` is what a reset with the whole memory as its region makes of any constructed state whose
buffer is ten zeros (model's choice of region and buffer: log 2, log 5). -/
def Obligations.ResetStateIsAResetOfTheWholeMemory : Prop :=
  ∀ m : Table, hostReset 0 1000 (State.construct m resetBuffer) = State.reset

/-- A host write to memory sets one cell and nothing else, LASTW included; a value above 999 is refused (decisions D13,
D16). -/
def Obligations.HostMemoryWritesSetOneCell : Prop :=
  ∀ (a : Word) (n : Nat) (s : State),
    (n < 1000 → ∃ t, host (.writeMem a n) s = .next t ∧ t = { s with mem := t.mem } ∧ (hostReadMem t a).val = n ∧
      ∀ p, p ≠ a → hostReadMem t p = hostReadMem s p) ∧
    (1000 ≤ n → host (.writeMem a n) s = .refused (.hostValueNotAWord n))

/-- A host write to a register slot sets that slot and nothing else; ZERO ignores it and reads 0; a value above 999, or a
slot the core does not have, is refused (decisions D16, D26; log 15). -/
def Obligations.HostRegisterWritesSetOneSlot : Prop :=
  ∀ (slot : Slot) (n : Nat) (s : State),
    ((hostReadSlot s slot).isSome = true → n < 1000 → slot ≠ .zero → ∃ t, host (.writeSlot slot n) s = .next t ∧
      hostReadSlot t slot = some (Word.wrap n) ∧ (∀ q, q ≠ slot → hostReadSlot t q = hostReadSlot s q) ∧
      t.mem = s.mem ∧ t.xlatt = s.xlatt ∧ t.buf = s.buf ∧ t.lastw = s.lastw ∧ t.pstate = s.pstate) ∧
    (n < 1000 → host (.writeSlot .zero n) s = .next s) ∧
    hostReadSlot s .zero = some 0 ∧
    ((hostReadSlot s slot).isSome = true → 1000 ≤ n → host (.writeSlot slot n) s = .refused (.hostValueNotAWord n)) ∧
    ((hostReadSlot s slot).isSome = false → host (.writeSlot slot n) s = .refused .hostNoSuchSlot)

/-- REG_INDEX is a bijection onto the slots of the register file, whatever the numbering (decision D27, log 17), those
slots are the ones the host can read after reset, and an access by a slot's index is the access by its name. -/
def Obligations.RegisterIndicesNumberTheSlots : Prop :=
  (∀ slot, slotPresent slot = true → slotOfIndex (indexOfSlot slot) = some slot) ∧
  (∀ index slot, slotOfIndex index = some slot → slotPresent slot = true ∧ indexOfSlot slot = index) ∧
  (∀ slot, slotPresent slot = (hostReadSlot State.reset slot).isSome) ∧
  ∀ (slot : Slot) (n : Nat) (s : State), slotPresent slot = true →
    host (.writeIndex (indexOfSlot slot) n) s = host (.writeSlot slot n) s ∧
    hostReadIndex s (indexOfSlot slot) = hostReadSlot s slot

/-- The text window lies inside memory and shows cells 700 and 701, whatever its base and length (decision D28, log 16);
the codes 48 and 79 are 'H' and 'i' and 0 to 4 are no glyphs. -/
def Obligations.TextWindowShowsItsCells : Prop :=
  Config.textBase.val + textLen ≤ 1000 ∧
  (∀ s : State, (textWindow s)[700 - Config.textBase.val]? = some (hostReadMem s 700) ∧
    (textWindow s)[701 - Config.textBase.val]? = some (hostReadMem s 701)) ∧
  glyph 48 = some 'H' ∧ glyph 79 = some 'i' ∧ ∀ w : Word, w.val ≤ 4 → glyph w = none
end

