-- ==== Sys2Proof/Laws/Digits.lean ====
section
/-! SUPPORT. The digits of a word and the word of digits (spec/00_scope.md R9), and what the operand digits and cursor
take from a buffer. -/

namespace Sys2Proof

@[simp] theorem Word.hundreds_ofDigits (h t u : Digit) : (Word.ofDigits h t u).hundreds = h := by
  apply Fin.ext; simp only [Word.hundreds, Word.ofDigits]; omega

@[simp] theorem Word.tens_ofDigits (h t u : Digit) : (Word.ofDigits h t u).tens = t := by
  apply Fin.ext; simp only [Word.tens, Word.ofDigits]; omega

@[simp] theorem Word.units_ofDigits (h t u : Digit) : (Word.ofDigits h t u).units = u := by
  apply Fin.ext; simp only [Word.units, Word.ofDigits]; omega

/-- A word is the word of its digits. -/
theorem Word.ofDigits_digits (w : Word) : Word.ofDigits w.hundreds w.tens w.units = w := by
  apply Fin.ext; simp only [Word.hundreds, Word.tens, Word.units, Word.ofDigits]; omega

@[simp] theorem Buffer.ofWords_w0 (w : Word) (ws : List Word) : (Buffer.ofWords (w :: ws)).w0 = w := rfl
@[simp] theorem Buffer.ofWords_w1 (v w : Word) (ws : List Word) : (Buffer.ofWords (v :: w :: ws)).w1 = w := rfl

/-- A source operand's digit and extension word give the operand back. -/
theorem takeSrc_digit (b : Buffer) (cur : Digit) (s : Src) (h : ∀ w ∈ s.ext, b.word cur = w) :
    takeSrc b cur s.digit = s := by
  cases s with
  | imm v => simp [Src.ext] at h; simp [Src.digit, takeSrc, h]
  | reg r => cases r <;> rfl
  | ind r => cases r <;> rfl
  | abs a => simp [Src.ext] at h; simp [Src.digit, takeSrc, h]

/-- A destination operand's digit and extension word give the operand back. -/
theorem takeDst_digit (b : Buffer) (cur : Digit) (d : Dst) (h : ∀ w ∈ d.ext, b.word cur = w) :
    takeDst b cur d.digit = d := by
  cases d with
  | mode0 => rfl
  | reg r => cases r <;> rfl
  | ind r => cases r <;> rfl
  | abs a => simp [Dst.ext] at h; simp [Dst.digit, takeDst, h]

/-- An operand has at most one extension word (spec/30_encoding.md R112). -/
theorem Src.ext_length (s : Src) : s.ext.length ≤ 1 := by cases s <;> simp [Src.ext]

/-- An operand has at most one extension word (spec/30_encoding.md R112). -/
theorem Dst.ext_length (d : Dst) : d.ext.length ≤ 1 := by cases d <;> simp [Dst.ext]

/-! ### Operands at the cursor, from the words the encoder writes -/

/-- The extension word of a source stands where the cursor is after the destination, after one opcode word. -/
theorem takeTwo_encoded (mk : Dst → Src → Instr) (h : Digit) (d : Dst) (s : Src) (w : Word) (rest : List Word) :
    takeTwo mk (Buffer.ofWords (w :: (d.ext ++ (s.ext ++ rest)))) 1 (Word.ofDigits h d.digit s.digit) = mk d s := by
  simp only [takeTwo, Word.tens_ofDigits, Word.units_ofDigits]
  rw [takeDst_digit, takeSrc_digit]
  · intro x hx
    cases d with
    | mode0 => cases s <;> simp [Src.ext] at hx <;> subst hx <;> rfl
    | reg q => cases q <;> cases s <;> simp [Src.ext] at hx <;> subst hx <;> rfl
    | ind q => cases q <;> cases s <;> simp [Src.ext] at hx <;> subst hx <;> rfl
    | abs a => cases s <;> simp [Src.ext] at hx <;> subst hx <;> rfl
  · intro x hx
    cases d <;> simp [Dst.ext] at hx; subst hx; rfl

/-- The same after a prefix word and a payload. -/
theorem takeTwo_encoded_prefixed (mk : Dst → Src → Instr) (h : Digit) (d : Dst) (s : Src) (v w : Word)
    (rest : List Word) :
    takeTwo mk (Buffer.ofWords (v :: w :: (d.ext ++ (s.ext ++ rest)))) 2 (Word.ofDigits h d.digit s.digit) = mk d s := by
  simp only [takeTwo, Word.tens_ofDigits, Word.units_ofDigits]
  rw [takeDst_digit, takeSrc_digit]
  · intro x hx
    cases d with
    | mode0 => cases s <;> simp [Src.ext] at hx <;> subst hx <;> rfl
    | reg q => cases q <;> cases s <;> simp [Src.ext] at hx <;> subst hx <;> rfl
    | ind q => cases q <;> cases s <;> simp [Src.ext] at hx <;> subst hx <;> rfl
    | abs a => cases s <;> simp [Src.ext] at hx <;> subst hx <;> rfl
  · intro x hx
    cases d <;> simp [Dst.ext] at hx; subst hx; rfl

theorem takeDst_encoded (m : Dst) (w : Word) (rest : List Word) :
    takeDst (Buffer.ofWords (w :: (m.ext ++ rest))) 1 m.digit = m := by
  apply takeDst_digit; intro x hx; cases m <;> simp [Dst.ext] at hx; subst hx; rfl

theorem takeDst_encoded_prefixed (m : Dst) (v w : Word) (rest : List Word) :
    takeDst (Buffer.ofWords (v :: w :: (m.ext ++ rest))) 2 m.digit = m := by
  apply takeDst_digit; intro x hx; cases m <;> simp [Dst.ext] at hx; subst hx; rfl

theorem takeSrc_encoded (m : Src) (w : Word) (rest : List Word) :
    takeSrc (Buffer.ofWords (w :: (m.ext ++ rest))) 1 m.digit = m := by
  apply takeSrc_digit; intro x hx; cases m <;> simp [Src.ext] at hx <;> subst hx <;> rfl

theorem takeSrc_encoded_prefixed (m : Src) (v w : Word) (rest : List Word) :
    takeSrc (Buffer.ofWords (v :: w :: (m.ext ++ rest))) 2 m.digit = m := by
  apply takeSrc_digit; intro x hx; cases m <;> simp [Src.ext] at hx <;> subst hx <;> rfl

/-! ### The fixed words by their digits -/

theorem word890 : (890 : Word) = Word.ofDigits 8 9 0 := by decide
theorem word990 : (990 : Word) = Word.ofDigits 9 9 0 := by decide
theorem word991 : (991 : Word) = Word.ofDigits 9 9 1 := by decide
theorem word992 : (992 : Word) = Word.ofDigits 9 9 2 := by decide
theorem word993 : (993 : Word) = Word.ofDigits 9 9 3 := by decide
theorem word994 : (994 : Word) = Word.ofDigits 9 9 4 := by decide
theorem word995 : (995 : Word) = Word.ofDigits 9 9 5 := by decide
theorem word996 : (996 : Word) = Word.ofDigits 9 9 6 := by decide
theorem word997 : (997 : Word) = Word.ofDigits 9 9 7 := by decide
theorem word998 : (998 : Word) = Word.ofDigits 9 9 8 := by decide
theorem word999 : (999 : Word) = Word.ofDigits 9 9 9 := by decide

/-! ### OPMAP -/

/-- The machine's OPMAP keeps the confirmed digits (spec/30_encoding.md R93). -/
theorem Config.opmap_wf : Config.opmap.wf := by decide

@[simp] theorem Config.opmap_group9 (d : Digit) : Config.opmap.group9 d = d := rfl
@[simp] theorem Config.opmap_group99 (d : Digit) : Config.opmap.group99 d = d := rfl
@[simp] theorem Config.opmap_group8 (d : Digit) : Config.opmap.group8 d = d := rfl
@[simp] theorem Config.opmap_payload990 (d : Digit) : Config.opmap.payload990 d = d := rfl
@[simp] theorem Config.opmap_sub990 (d : Digit) : Config.opmap.sub990 d = d := rfl
@[simp] theorem Config.opmap_payload890 (d : Digit) : Config.opmap.payload890 d = d := rfl
@[simp] theorem Config.opmap_sub890 (d : Digit) : Config.opmap.sub890 d = d := rfl
@[simp] theorem Config.opmap_group9_symm (d : Digit) : Config.opmap.group9.symm d = d := rfl
@[simp] theorem Config.opmap_group99_symm (d : Digit) : Config.opmap.group99.symm d = d := rfl
@[simp] theorem Config.opmap_group8_symm (d : Digit) : Config.opmap.group8.symm d = d := rfl
@[simp] theorem Config.opmap_payload990_symm (d : Digit) : Config.opmap.payload990.symm d = d := rfl
@[simp] theorem Config.opmap_sub990_symm (d : Digit) : Config.opmap.sub990.symm d = d := rfl
@[simp] theorem Config.opmap_payload890_symm (d : Digit) : Config.opmap.payload890.symm d = d := rfl
@[simp] theorem Config.opmap_sub890_symm (d : Digit) : Config.opmap.sub890.symm d = d := rfl
@[simp] theorem Config.opmap_libCode : Config.opmap.libCode = 994 := by decide
@[simp] theorem Config.opmap_sysCode : Config.opmap.sysCode = 995 := by decide

/-- Under every OPMAP the prefix 990 selects the 990 payload table (spec/30_encoding.md R93, R94). -/
theorem decodeWith_990 (m : OpMap) (hm : m.wf) (b : Buffer) (h : b.w0 = 990) : decodeWith m b = decode990 m b := by
  unfold decodeWith decodeGroup9 decodeGroup99
  rw [h, word990, Word.hundreds_ofDigits, Word.tens_ofDigits, Word.units_ofDigits, hm.1, hm.2.1]

/-- Under every OPMAP the prefix 890 selects the 890 payload table (spec/30_encoding.md R93, R96). -/
theorem decodeWith_890 (m : OpMap) (hm : m.wf) (b : Buffer) (h : b.w0 = 890) : decodeWith m b = decode890 m b := by
  unfold decodeWith decodeGroup8
  rw [h, word890, Word.hundreds_ofDigits, Word.tens_ofDigits, Word.units_ofDigits, hm.2.2.2.1]; simp

/-- The prefix 990 selects the 990 payload table. -/
theorem decode_990 (b : Buffer) (h : b.w0 = 990) : decode b = decode990 Config.opmap b :=
  decodeWith_990 _ Config.opmap_wf b h

/-- The prefix 890 selects the 890 payload table. -/
theorem decode_890 (b : Buffer) (h : b.w0 = 890) : decode b = decode890 Config.opmap b :=
  decodeWith_890 _ Config.opmap_wf b h

end Sys2Proof
end

