-- ==== Sys2Proof/Laws/State.lean ====
section
/-! SUPPORT. One lemma per field per update of State, each true by definition, so that no later proof unfolds a record
update. -/

namespace Sys2Proof.Machine

variable (s : State)

@[simp] theorem State.setReg_mem (r : GReg) (v : Word) : (s.setReg r v).mem = s.mem := rfl
@[simp] theorem State.setReg_xlatt (r : GReg) (v : Word) : (s.setReg r v).xlatt = s.xlatt := rfl
@[simp] theorem State.setReg_gpr (r : GReg) (v : Word) : (s.setReg r v).gpr = s.gpr.set r v := rfl
@[simp] theorem State.setReg_sp (r : GReg) (v : Word) : (s.setReg r v).sp = s.sp := rfl
@[simp] theorem State.setReg_ip (r : GReg) (v : Word) : (s.setReg r v).ip = s.ip := rfl
@[simp] theorem State.setReg_flags (r : GReg) (v : Word) : (s.setReg r v).flags = s.flags := rfl
@[simp] theorem State.setReg_ver (r : GReg) (v : Word) : (s.setReg r v).ver = s.ver := rfl
@[simp] theorem State.setReg_rsv (r : GReg) (v : Word) : (s.setReg r v).rsv = s.rsv := rfl
@[simp] theorem State.setReg_buf (r : GReg) (v : Word) : (s.setReg r v).buf = s.buf := rfl
@[simp] theorem State.setReg_lastw (r : GReg) (v : Word) : (s.setReg r v).lastw = s.lastw := rfl
@[simp] theorem State.setReg_pstate (r : GReg) (v : Word) : (s.setReg r v).pstate = s.pstate := rfl

@[simp] theorem State.setSp_mem (v : Word) : (s.setSp v).mem = s.mem := rfl
@[simp] theorem State.setSp_xlatt (v : Word) : (s.setSp v).xlatt = s.xlatt := rfl
@[simp] theorem State.setSp_gpr (v : Word) : (s.setSp v).gpr = s.gpr := rfl
@[simp] theorem State.setSp_sp (v : Word) : (s.setSp v).sp = v := rfl
@[simp] theorem State.setSp_ip (v : Word) : (s.setSp v).ip = s.ip := rfl
@[simp] theorem State.setSp_flags (v : Word) : (s.setSp v).flags = s.flags := rfl
@[simp] theorem State.setSp_ver (v : Word) : (s.setSp v).ver = s.ver := rfl
@[simp] theorem State.setSp_rsv (v : Word) : (s.setSp v).rsv = s.rsv := rfl
@[simp] theorem State.setSp_buf (v : Word) : (s.setSp v).buf = s.buf := rfl
@[simp] theorem State.setSp_lastw (v : Word) : (s.setSp v).lastw = s.lastw := rfl
@[simp] theorem State.setSp_pstate (v : Word) : (s.setSp v).pstate = s.pstate := rfl

@[simp] theorem State.setIp_mem (v : Word) : (s.setIp v).mem = s.mem := rfl
@[simp] theorem State.setIp_xlatt (v : Word) : (s.setIp v).xlatt = s.xlatt := rfl
@[simp] theorem State.setIp_gpr (v : Word) : (s.setIp v).gpr = s.gpr := rfl
@[simp] theorem State.setIp_sp (v : Word) : (s.setIp v).sp = s.sp := rfl
@[simp] theorem State.setIp_ip (v : Word) : (s.setIp v).ip = v := rfl
@[simp] theorem State.setIp_flags (v : Word) : (s.setIp v).flags = s.flags := rfl
@[simp] theorem State.setIp_ver (v : Word) : (s.setIp v).ver = s.ver := rfl
@[simp] theorem State.setIp_rsv (v : Word) : (s.setIp v).rsv = s.rsv := rfl
@[simp] theorem State.setIp_buf (v : Word) : (s.setIp v).buf = s.buf := rfl
@[simp] theorem State.setIp_lastw (v : Word) : (s.setIp v).lastw = s.lastw := rfl
@[simp] theorem State.setIp_pstate (v : Word) : (s.setIp v).pstate = s.pstate := rfl

@[simp] theorem State.setFlags_mem (v : Word) : (s.setFlags v).mem = s.mem := rfl
@[simp] theorem State.setFlags_xlatt (v : Word) : (s.setFlags v).xlatt = s.xlatt := rfl
@[simp] theorem State.setFlags_gpr (v : Word) : (s.setFlags v).gpr = s.gpr := rfl
@[simp] theorem State.setFlags_sp (v : Word) : (s.setFlags v).sp = s.sp := rfl
@[simp] theorem State.setFlags_ip (v : Word) : (s.setFlags v).ip = s.ip := rfl
@[simp] theorem State.setFlags_flags (v : Word) : (s.setFlags v).flags = v := rfl
@[simp] theorem State.setFlags_ver (v : Word) : (s.setFlags v).ver = s.ver := rfl
@[simp] theorem State.setFlags_rsv (v : Word) : (s.setFlags v).rsv = s.rsv := rfl
@[simp] theorem State.setFlags_buf (v : Word) : (s.setFlags v).buf = s.buf := rfl
@[simp] theorem State.setFlags_lastw (v : Word) : (s.setFlags v).lastw = s.lastw := rfl
@[simp] theorem State.setFlags_pstate (v : Word) : (s.setFlags v).pstate = s.pstate := rfl

@[simp] theorem State.setLastw_mem (p : Word) : (s.setLastw p).mem = s.mem := rfl
@[simp] theorem State.setLastw_xlatt (p : Word) : (s.setLastw p).xlatt = s.xlatt := rfl
@[simp] theorem State.setLastw_gpr (p : Word) : (s.setLastw p).gpr = s.gpr := rfl
@[simp] theorem State.setLastw_sp (p : Word) : (s.setLastw p).sp = s.sp := rfl
@[simp] theorem State.setLastw_ip (p : Word) : (s.setLastw p).ip = s.ip := rfl
@[simp] theorem State.setLastw_flags (p : Word) : (s.setLastw p).flags = s.flags := rfl
@[simp] theorem State.setLastw_ver (p : Word) : (s.setLastw p).ver = s.ver := rfl
@[simp] theorem State.setLastw_rsv (p : Word) : (s.setLastw p).rsv = s.rsv := rfl
@[simp] theorem State.setLastw_buf (p : Word) : (s.setLastw p).buf = s.buf := rfl
@[simp] theorem State.setLastw_lastw (p : Word) : (s.setLastw p).lastw = some p := rfl
@[simp] theorem State.setLastw_pstate (p : Word) : (s.setLastw p).pstate = s.pstate := rfl

@[simp] theorem State.setPstate_mem (p : PState) : (s.setPstate p).mem = s.mem := rfl
@[simp] theorem State.setPstate_xlatt (p : PState) : (s.setPstate p).xlatt = s.xlatt := rfl
@[simp] theorem State.setPstate_gpr (p : PState) : (s.setPstate p).gpr = s.gpr := rfl
@[simp] theorem State.setPstate_sp (p : PState) : (s.setPstate p).sp = s.sp := rfl
@[simp] theorem State.setPstate_ip (p : PState) : (s.setPstate p).ip = s.ip := rfl
@[simp] theorem State.setPstate_flags (p : PState) : (s.setPstate p).flags = s.flags := rfl
@[simp] theorem State.setPstate_ver (p : PState) : (s.setPstate p).ver = s.ver := rfl
@[simp] theorem State.setPstate_rsv (p : PState) : (s.setPstate p).rsv = s.rsv := rfl
@[simp] theorem State.setPstate_buf (p : PState) : (s.setPstate p).buf = s.buf := rfl
@[simp] theorem State.setPstate_lastw (p : PState) : (s.setPstate p).lastw = s.lastw := rfl
@[simp] theorem State.setPstate_pstate (p : PState) : (s.setPstate p).pstate = p := rfl

@[simp] theorem State.memWrite_mem (a v : Word) : (s.memWrite a v).mem = Memory.write s.mem (s.xlat a) v := rfl
@[simp] theorem State.memWrite_xlatt (a v : Word) : (s.memWrite a v).xlatt = s.xlatt := rfl
@[simp] theorem State.memWrite_gpr (a v : Word) : (s.memWrite a v).gpr = s.gpr := rfl
@[simp] theorem State.memWrite_sp (a v : Word) : (s.memWrite a v).sp = s.sp := rfl
@[simp] theorem State.memWrite_ip (a v : Word) : (s.memWrite a v).ip = s.ip := rfl
@[simp] theorem State.memWrite_flags (a v : Word) : (s.memWrite a v).flags = s.flags := rfl
@[simp] theorem State.memWrite_ver (a v : Word) : (s.memWrite a v).ver = s.ver := rfl
@[simp] theorem State.memWrite_rsv (a v : Word) : (s.memWrite a v).rsv = s.rsv := rfl
@[simp] theorem State.memWrite_buf (a v : Word) : (s.memWrite a v).buf = s.buf := rfl
@[simp] theorem State.memWrite_lastw (a v : Word) : (s.memWrite a v).lastw = s.lastw := rfl
@[simp] theorem State.memWrite_pstate (a v : Word) : (s.memWrite a v).pstate = s.pstate := rfl

@[simp] theorem State.push_mem (v : Word) : (s.push v).mem = Memory.write s.mem (s.xlat s.spBelow) v := rfl
@[simp] theorem State.push_xlatt (v : Word) : (s.push v).xlatt = s.xlatt := rfl
@[simp] theorem State.push_gpr (v : Word) : (s.push v).gpr = s.gpr := rfl
@[simp] theorem State.push_sp (v : Word) : (s.push v).sp = s.spBelow := rfl
@[simp] theorem State.push_ip (v : Word) : (s.push v).ip = s.ip := rfl
@[simp] theorem State.push_flags (v : Word) : (s.push v).flags = s.flags := rfl
@[simp] theorem State.push_ver (v : Word) : (s.push v).ver = s.ver := rfl
@[simp] theorem State.push_rsv (v : Word) : (s.push v).rsv = s.rsv := rfl
@[simp] theorem State.push_buf (v : Word) : (s.push v).buf = s.buf := rfl
@[simp] theorem State.push_lastw (v : Word) : (s.push v).lastw = s.lastw := rfl
@[simp] theorem State.push_pstate (v : Word) : (s.push v).pstate = s.pstate := rfl

@[simp] theorem State.popped_mem : (s.popped).mem = s.mem := rfl
@[simp] theorem State.popped_xlatt : (s.popped).xlatt = s.xlatt := rfl
@[simp] theorem State.popped_gpr : (s.popped).gpr = s.gpr := rfl
@[simp] theorem State.popped_sp : (s.popped).sp = Word.wrap (s.sp.val + 1) := rfl
@[simp] theorem State.popped_ip : (s.popped).ip = s.ip := rfl
@[simp] theorem State.popped_flags : (s.popped).flags = s.flags := rfl
@[simp] theorem State.popped_ver : (s.popped).ver = s.ver := rfl
@[simp] theorem State.popped_rsv : (s.popped).rsv = s.rsv := rfl
@[simp] theorem State.popped_buf : (s.popped).buf = s.buf := rfl
@[simp] theorem State.popped_lastw : (s.popped).lastw = s.lastw := rfl
@[simp] theorem State.popped_pstate : (s.popped).pstate = s.pstate := rfl

@[simp] theorem State.popIp_mem : (s.popIp).mem = s.mem := rfl
@[simp] theorem State.popIp_xlatt : (s.popIp).xlatt = s.xlatt := rfl
@[simp] theorem State.popIp_gpr : (s.popIp).gpr = s.gpr := rfl
@[simp] theorem State.popIp_sp : (s.popIp).sp = Word.wrap (s.sp.val + 1) := rfl
@[simp] theorem State.popIp_ip : (s.popIp).ip = s.popValue := rfl
@[simp] theorem State.popIp_flags : (s.popIp).flags = s.flags := rfl
@[simp] theorem State.popIp_ver : (s.popIp).ver = s.ver := rfl
@[simp] theorem State.popIp_rsv : (s.popIp).rsv = s.rsv := rfl
@[simp] theorem State.popIp_buf : (s.popIp).buf = s.buf := rfl
@[simp] theorem State.popIp_lastw : (s.popIp).lastw = s.lastw := rfl
@[simp] theorem State.popIp_pstate : (s.popIp).pstate = s.pstate := rfl

@[simp] theorem fetch_mem : (fetch s).mem = s.mem := rfl
@[simp] theorem fetch_xlatt : (fetch s).xlatt = s.xlatt := rfl
@[simp] theorem fetch_gpr : (fetch s).gpr = s.gpr := rfl
@[simp] theorem fetch_sp : (fetch s).sp = s.sp := rfl
@[simp] theorem fetch_ip : (fetch s).ip = s.fetchAddr (decodeLength s.fetchBuffer) := rfl
@[simp] theorem fetch_flags : (fetch s).flags = s.flags := rfl
@[simp] theorem fetch_ver : (fetch s).ver = s.ver := rfl
@[simp] theorem fetch_rsv : (fetch s).rsv = s.rsv := rfl
@[simp] theorem fetch_buf : (fetch s).buf = s.fetchBuffer := rfl
@[simp] theorem fetch_lastw : (fetch s).lastw = s.lastw := rfl
@[simp] theorem fetch_pstate : (fetch s).pstate = s.pstate := rfl

@[simp] theorem State.setFetched_mem (b : Buffer) (ip : Word) : (s.setFetched b ip).mem = s.mem := rfl
@[simp] theorem State.setFetched_xlatt (b : Buffer) (ip : Word) : (s.setFetched b ip).xlatt = s.xlatt := rfl
@[simp] theorem State.setFetched_gpr (b : Buffer) (ip : Word) : (s.setFetched b ip).gpr = s.gpr := rfl
@[simp] theorem State.setFetched_sp (b : Buffer) (ip : Word) : (s.setFetched b ip).sp = s.sp := rfl
@[simp] theorem State.setFetched_ip (b : Buffer) (ip : Word) : (s.setFetched b ip).ip = ip := rfl
@[simp] theorem State.setFetched_flags (b : Buffer) (ip : Word) : (s.setFetched b ip).flags = s.flags := rfl
@[simp] theorem State.setFetched_ver (b : Buffer) (ip : Word) : (s.setFetched b ip).ver = s.ver := rfl
@[simp] theorem State.setFetched_rsv (b : Buffer) (ip : Word) : (s.setFetched b ip).rsv = s.rsv := rfl
@[simp] theorem State.setFetched_buf (b : Buffer) (ip : Word) : (s.setFetched b ip).buf = b := rfl
@[simp] theorem State.setFetched_lastw (b : Buffer) (ip : Word) : (s.setFetched b ip).lastw = s.lastw := rfl
@[simp] theorem State.setFetched_pstate (b : Buffer) (ip : Word) : (s.setFetched b ip).pstate = s.pstate := rfl

/-! ### What the updates leave of the translator and the registers -/

@[simp] theorem State.setReg_xlat (r : GReg) (v a : Word) : (s.setReg r v).xlat a = s.xlat a := rfl
@[simp] theorem State.setSp_xlat (v a : Word) : (s.setSp v).xlat a = s.xlat a := rfl
@[simp] theorem State.setIp_xlat (v a : Word) : (s.setIp v).xlat a = s.xlat a := rfl
@[simp] theorem State.setFlags_xlat (v a : Word) : (s.setFlags v).xlat a = s.xlat a := rfl
@[simp] theorem State.setLastw_xlat (p a : Word) : (s.setLastw p).xlat a = s.xlat a := rfl
@[simp] theorem State.setPstate_xlat (p : PState) (a : Word) : (s.setPstate p).xlat a = s.xlat a := rfl
@[simp] theorem State.memWrite_xlat (b v a : Word) : (s.memWrite b v).xlat a = s.xlat a := rfl
@[simp] theorem State.push_xlat (v a : Word) : (s.push v).xlat a = s.xlat a := rfl
@[simp] theorem State.popped_xlat (a : Word) : s.popped.xlat a = s.xlat a := rfl
@[simp] theorem State.setFetched_xlat (b : Buffer) (ip a : Word) : (s.setFetched b ip).xlat a = s.xlat a := rfl
@[simp] theorem fetch_xlat (a : Word) : (fetch s).xlat a = s.xlat a := rfl

@[simp] theorem State.setSp_reg (v : Word) (q : GReg) : (s.setSp v).reg q = s.reg q := rfl
@[simp] theorem State.setIp_reg (v : Word) (q : GReg) : (s.setIp v).reg q = s.reg q := rfl
@[simp] theorem State.setFlags_reg (v : Word) (q : GReg) : (s.setFlags v).reg q = s.reg q := rfl
@[simp] theorem State.setLastw_reg (p : Word) (q : GReg) : (s.setLastw p).reg q = s.reg q := rfl
@[simp] theorem State.setPstate_reg (p : PState) (q : GReg) : (s.setPstate p).reg q = s.reg q := rfl
@[simp] theorem State.memWrite_reg (a v : Word) (q : GReg) : (s.memWrite a v).reg q = s.reg q := rfl
@[simp] theorem State.push_reg (v : Word) (q : GReg) : (s.push v).reg q = s.reg q := rfl
@[simp] theorem State.popped_reg (q : GReg) : s.popped.reg q = s.reg q := rfl
@[simp] theorem State.setFetched_reg (b : Buffer) (ip : Word) (q : GReg) : (s.setFetched b ip).reg q = s.reg q := rfl
@[simp] theorem fetch_reg (q : GReg) : (fetch s).reg q = s.reg q := rfl

/-- A register write is read back. -/
@[simp] theorem Regs.get_set_same (g : Regs) (r : GReg) (v : Word) : (g.set r v).get r = v := by
  cases r <;> rfl

/-- A register write leaves the other registers alone. -/
theorem Regs.get_set_other (g : Regs) (r q : GReg) (v : Word) (h : q ≠ r) : (g.set r v).get q = g.get q := by
  cases r <;> cases q <;> first | rfl | exact absurd rfl h

@[simp] theorem State.setReg_reg_same (r : GReg) (v : Word) : (s.setReg r v).reg r = v :=
  Regs.get_set_same s.gpr r v

theorem State.setReg_reg_other (r q : GReg) (v : Word) (h : q ≠ r) : (s.setReg r v).reg q = s.reg q :=
  Regs.get_set_other s.gpr r q v h

/-- An operand names one of R1 to R4 only (spec/10_state.md R22). -/
theorem gregOf_low (r : MReg) : gregOf r = .r1 ∨ gregOf r = .r2 ∨ gregOf r = .r3 ∨ gregOf r = .r4 := by
  cases r <;> simp [gregOf]

end Sys2Proof.Machine
end

