-- ==== Sys2Proof/Laws/Memory.lean ====
section
/-! SUPPORT. What the table and memory operations do, once each: reading after a write, the other cells, and the
canonical form (spec/20_memory.md R53, R54). -/

namespace Sys2Proof.Machine

/-! ### Tables -/

theorem Table.find_insert_same (t : Table) (a v : Word) : Table.find (Table.insert t a v) a = some v := by
  induction t with
  | nil => simp [Table.insert, Table.find]
  | cons p rest ih =>
    obtain ⟨k, w⟩ := p
    simp only [Table.insert]
    split_ifs with h1 h2
    · simp [Table.find]
    · simp [Table.find, h2]
    · simp [Table.find, h2, ih]

theorem Table.find_insert_other (t : Table) (a b v : Word) (h : b ≠ a) :
    Table.find (Table.insert t a v) b = Table.find t b := by
  induction t with
  | nil => simp [Table.insert, Table.find, h]
  | cons p rest ih =>
    obtain ⟨k, w⟩ := p
    simp only [Table.insert]
    split_ifs with h1 h2
    · simp [Table.find, h]
    · subst h2; simp [Table.find, h]
    · simp [Table.find, ih]

theorem Table.find_erase_same (t : Table) (a : Word) : Table.find (Table.erase t a) a = none := by
  induction t with
  | nil => rfl
  | cons p rest ih =>
    obtain ⟨k, w⟩ := p
    by_cases h : k = a
    · simpa [Table.erase, h] using ih
    · have h' : a ≠ k := fun e => h e.symm
      simpa [Table.erase, h, Table.find, h'] using ih

theorem Table.find_erase_other (t : Table) (a b : Word) (h : b ≠ a) :
    Table.find (Table.erase t a) b = Table.find t b := by
  induction t with
  | nil => rfl
  | cons p rest ih =>
    obtain ⟨k, w⟩ := p
    by_cases hk : k = a
    · have hb : b ≠ k := fun e => h (e.trans hk)
      simpa [Table.erase, hk, Table.find, hb, h] using ih
    · by_cases hb : b = k
      · simp [Table.erase, Table.find, hb, hk]
      · simpa [Table.erase, hk, Table.find, hb] using ih

theorem Table.mem_insert (t : Table) (a v : Word) (p : Word × Word) (hp : p ∈ Table.insert t a v) :
    p = (a, v) ∨ p ∈ t := by
  induction t with
  | nil => simpa [Table.insert] using hp
  | cons q rest ih =>
    obtain ⟨k, w⟩ := q
    simp only [Table.insert] at hp
    split_ifs at hp with h1 h2
    · simpa using hp
    · subst h2
      rcases List.mem_cons.mp hp with h | h
      · exact .inl h
      · exact .inr (List.mem_cons_of_mem _ h)
    · rcases List.mem_cons.mp hp with h | h
      · exact .inr (h ▸ List.mem_cons_self)
      · rcases ih h with h | h
        · exact .inl h
        · exact .inr (List.mem_cons_of_mem _ h)

/-- Inserting an entry that differs from the default keeps the canonical form. -/
theorem Table.insert_wf (dflt : Word → Word) (t : Table) (a v : Word) (h : Table.wf dflt t) (hv : v ≠ dflt a) :
    Table.wf dflt (Table.insert t a v) := by
  refine ⟨?_, fun p hp => ?_⟩
  · have hs := h.1
    clear h
    induction t with
    | nil => simp [Table.insert]
    | cons q rest ih =>
      obtain ⟨k, w⟩ := q
      obtain ⟨hk, hr⟩ := List.pairwise_cons.mp hs
      simp only [Table.insert]
      split_ifs with h1 h2
      · refine List.pairwise_cons.mpr ⟨fun p hp => ?_, hs⟩
        rcases List.mem_cons.mp hp with h | h
        · exact h ▸ h1
        · exact lt_trans h1 (hk p h)
      · exact List.pairwise_cons.mpr ⟨hk, hr⟩
      · refine List.pairwise_cons.mpr ⟨fun p hp => ?_, ih hr⟩
        rcases Table.mem_insert rest a v p hp with h | h
        · subst h; exact lt_of_le_of_ne (not_lt.mp h1) (fun e => h2 e.symm)
        · exact hk p h
  · rcases Table.mem_insert t a v p hp with h' | h'
    · subst h'; exact hv
    · exact h.2 p h'

/-- Removing entries keeps the canonical form. -/
theorem Table.erase_wf (dflt : Word → Word) (t : Table) (a : Word) (h : Table.wf dflt t) :
    Table.wf dflt (Table.erase t a) :=
  ⟨h.1.filter _, fun p hp => h.2 p (List.mem_filter.mp hp).1⟩

/-! ### Memory -/

/-- A write is read back. -/
@[simp] theorem Memory.read_write_same (m : Table) (p v : Word) : Memory.read (Memory.write m p v) p = v := by
  unfold Memory.read Memory.write
  split_ifs with h
  · simp [Table.find_erase_same, h]
  · simp [Table.find_insert_same]

/-- A write leaves every other cell alone. -/
theorem Memory.read_write_other (m : Table) (p q v : Word) (h : q ≠ p) :
    Memory.read (Memory.write m p v) q = Memory.read m q := by
  unfold Memory.read Memory.write
  split_ifs
  · rw [Table.find_erase_other m p q h]
  · rw [Table.find_insert_other m p q v h]

/-- A write keeps the canonical form. -/
theorem Memory.write_wf (m : Table) (p v : Word) (h : Memory.wf m) : Memory.wf (Memory.write m p v) := by
  unfold Memory.write
  split_ifs with hv
  · exact Table.erase_wf _ m p h
  · exact Table.insert_wf _ m p v h hv

/-- Clearing a region keeps the canonical form. -/
theorem Memory.clear_wf (m : Table) (start : Word) (len : Nat) (h : Memory.wf m) :
    Memory.wf (Memory.clear m start len) := by
  unfold Memory.clear
  generalize List.range len = ks
  induction ks generalizing m with
  | nil => exact h
  | cons k ks ih =>
    simp only [List.foldl_cons]
    split_ifs with hk
    · exact ih _ (Memory.write_wf m _ 0 h)
    · exact ih _ h

/-- Memory in canonical form at reset. -/
theorem Memory.reset_wf : Memory.wf State.reset.mem := ⟨List.Pairwise.nil, fun _ h => absurd h List.not_mem_nil⟩

/-! ### Memory through the translator -/

@[simp] theorem State.memRead_memWrite_same (s : State) (a v : Word) : (s.memWrite a v).memRead a = v :=
  Memory.read_write_same s.mem (s.xlat a) v

theorem State.memRead_memWrite_other (s : State) (a b v : Word) (h : s.xlat b ≠ s.xlat a) :
    (s.memWrite a v).memRead b = s.memRead b :=
  Memory.read_write_other s.mem (s.xlat a) (s.xlat b) v h

/-- With no entry in the translator, an address translates to itself (spec/10_state.md R34). -/
theorem State.xlat_of_identity (s : State) (h : s.xlatt = []) (a : Word) : s.xlat a = a := by
  simp [State.xlat, h, Table.find]

end Sys2Proof.Machine
end

