-- ==== Sys2Proof/Laws/Operands.lean ====
section
/-! SUPPORT. What each shared shape of Machine/Operands.lean can do, said once: if it answers next t, then t is this. -/

namespace Sys2Proof.Machine

/-- A destination has a location exactly when its mode digit is not 0 (spec/30_encoding.md R110). -/
theorem State.dstLoc_isSome (s : State) (d : Dst) (h : d ≠ .mode0) : ∃ l, s.dstLoc d = some l := by
  cases d with
  | mode0 => exact absurd rfl h
  | reg r => exact ⟨_, rfl⟩
  | ind r => exact ⟨_, rfl⟩
  | abs a => exact ⟨_, rfl⟩

@[simp] theorem State.dstLoc_mode0 (s : State) : s.dstLoc .mode0 = none := rfl
@[simp] theorem State.dstLoc_reg (s : State) (r : MReg) : s.dstLoc (.reg r) = some (.reg (gregOf r)) := rfl
@[simp] theorem State.dstLoc_ind (s : State) (r : MReg) : s.dstLoc (.ind r) = some (.mem (s.reg (gregOf r))) := rfl
@[simp] theorem State.dstLoc_abs (s : State) (a : Word) : s.dstLoc (.abs a) = some (.mem a) := rfl

/-- `withDst` refuses mode digit 0, and otherwise goes on with the location. -/
theorem withDst_mode0 (s : State) (k : Loc → Result) : withDst .mode0 s k = .refused .unspecDstMode0 := rfl

theorem withDst_of_loc (d : Dst) (s : State) (k : Loc → Result) (l : Loc) (h : s.dstLoc d = some l) :
    withDst d s k = k l := by simp [withDst, h]

/-- If `withDst` answers a next state, the destination had a location and the continuation gave that state. -/
theorem withDst_next (d : Dst) (s t : State) (k : Loc → Result) (h : withDst d s k = .next t) :
    ∃ l, s.dstLoc d = some l ∧ k l = .next t := by
  unfold withDst at h
  split at h
  · cases h
  · exact ⟨_, ‹_›, h⟩

/-- If `updateDst` answers a next state, the destination's location took `f` of what it held. -/
theorem updateDst_next (f : Word → Word) (d : Dst) (s t : State) (h : updateDst f d s = .next t) :
    ∃ l, s.dstLoc d = some l ∧ t = s.writeLoc l (f (s.readLoc l)) := by
  obtain ⟨l, hl, hk⟩ := withDst_next d s t _ h
  cases hk; exact ⟨l, hl, rfl⟩

/-- If `combineDst` answers a next state, the destination's location took `f` of what it held and the source. -/
theorem combineDst_next (f : Word → Word → Word) (d : Dst) (src : Src) (s t : State)
    (h : combineDst f d src s = .next t) :
    ∃ l, s.dstLoc d = some l ∧ t = s.writeLoc l (f (s.readLoc l) (s.srcValue src)) := by
  obtain ⟨l, hl, hk⟩ := withDst_next d s t _ h
  cases hk; exact ⟨l, hl, rfl⟩

/-- If `storeDst` answers a next state, the destination's location took the value. -/
theorem storeDst_next (v : Word) (d : Dst) (s t : State) (h : storeDst v d s = .next t) :
    ∃ l, s.dstLoc d = some l ∧ t = s.writeLoc l v := by
  obtain ⟨l, hl, hk⟩ := withDst_next d s t _ h
  cases hk; exact ⟨l, hl, rfl⟩

/-- If `flagsFromDst` answers a next state, only FLAGS changed. -/
theorem flagsFromDst_next (f : Word → Word → Word) (d : Dst) (src : Src) (s t : State)
    (h : flagsFromDst f d src s = .next t) :
    ∃ l, s.dstLoc d = some l ∧ t = s.setFlags (f (s.readLoc l) (s.srcValue src)) := by
  obtain ⟨l, hl, hk⟩ := withDst_next d s t _ h
  cases hk; exact ⟨l, hl, rfl⟩

/-- `flagsFromSrc` always answers a next state, in which only FLAGS changed. -/
theorem flagsFromSrc_eq (f : Word → Word) (src : Src) (s : State) :
    flagsFromSrc f src s = .next (s.setFlags (f (s.srcValue src))) := rfl

/-- `raiseError` changes PSTATE only, whatever the cause. -/
theorem raiseError_eq (c : ErrorCause) (s : State) : raiseError c s = .next (s.setPstate .error) := rfl

/-! ### What a write through a location leaves alone -/

section
variable (s : State) (l : Loc) (v : Word)

@[simp] theorem State.writeLoc_xlatt : (s.writeLoc l v).xlatt = s.xlatt := by cases l <;> rfl
@[simp] theorem State.writeLoc_sp : (s.writeLoc l v).sp = s.sp := by cases l <;> rfl
@[simp] theorem State.writeLoc_ip : (s.writeLoc l v).ip = s.ip := by cases l <;> rfl
@[simp] theorem State.writeLoc_flags : (s.writeLoc l v).flags = s.flags := by cases l <;> rfl
@[simp] theorem State.writeLoc_ver : (s.writeLoc l v).ver = s.ver := by cases l <;> rfl
@[simp] theorem State.writeLoc_rsv : (s.writeLoc l v).rsv = s.rsv := by cases l <;> rfl
@[simp] theorem State.writeLoc_buf : (s.writeLoc l v).buf = s.buf := by cases l <;> rfl
@[simp] theorem State.writeLoc_pstate : (s.writeLoc l v).pstate = s.pstate := by cases l <;> rfl

/-- A write through a location is read back through it. -/
@[simp] theorem State.readLoc_writeLoc_same : (s.writeLoc l v).readLoc l = v := by
  cases l with
  | reg r => exact State.setReg_reg_same s r v
  | mem a => exact State.memRead_memWrite_same s a v

/-- A write through a location keeps memory's canonical form. -/
theorem State.writeLoc_wf (h : Memory.wf s.mem) : Memory.wf (s.writeLoc l v).mem := by
  cases l with
  | reg r => exact h
  | mem a => exact Memory.write_wf _ _ _ h

end

/-- A push keeps memory's canonical form. -/
theorem State.push_wf (s : State) (v : Word) (h : Memory.wf s.mem) : Memory.wf (s.push v).mem :=
  Memory.write_wf _ _ _ h

end Sys2Proof.Machine
end

