-- ==== Sys2Proof/Laws/PerInstr.lean ====
section
/-! SUPPORT. Statements made of every instruction as syntax, one lemma per constructor of `Instr`. -/

namespace Sys2Proof.Laws

/-- An instruction's words number 1 to 4 (spec/30_encoding.md R70). -/
def EncodeLength.Statement (i : Instr) : Prop := 1 ≤ (encode i).length ∧ (encode i).length ≤ 4

/-- The bound for a form whose words are one word and the extension words of at most two operands, after at most one
leading word. -/
theorem encodeTwo_length (h : Digit) (d : Dst) (s : Src) :
    1 ≤ (encodeTwo h d s).length ∧ (encodeTwo h d s).length ≤ 3 := by
  have h1 := Dst.ext_length d
  have h2 := Src.ext_length s
  simp only [encodeTwo, List.length_cons, List.length_append]; omega

theorem encodeDst_length (h t : Digit) (m : Dst) :
    1 ≤ (encodeDst h t m).length ∧ (encodeDst h t m).length ≤ 2 := by
  have h1 := Dst.ext_length m
  simp only [encodeDst, List.length_cons]; omega

theorem encodeSrc_length (h t : Digit) (m : Src) :
    1 ≤ (encodeSrc h t m).length ∧ (encodeSrc h t m).length ≤ 2 := by
  have h1 := Src.ext_length m
  simp only [encodeSrc, List.length_cons]; omega

theorem oneWord : 1 ≤ 1 ∧ 1 ≤ 4 := by omega

theorem twoWords : 1 ≤ 2 ∧ 2 ≤ 4 := by omega

theorem bare3 {n : Nat} (h : 1 ≤ n ∧ n ≤ 3) : 1 ≤ n ∧ n ≤ 4 := by omega

theorem bare2 {n : Nat} (h : 1 ≤ n ∧ n ≤ 2) : 1 ≤ n ∧ n ≤ 4 := by omega

theorem lead3 {n : Nat} (h : 1 ≤ n ∧ n ≤ 3) : 1 ≤ n + 1 ∧ n + 1 ≤ 4 := by omega

theorem lead2 {n : Nat} (h : 1 ≤ n ∧ n ≤ 2) : 1 ≤ n + 1 ∧ n + 1 ≤ 4 := by omega

theorem lead1 {n : Nat} (h : n ≤ 1) : 1 ≤ n + 1 ∧ n + 1 ≤ 4 := by omega

theorem EncodeLength.add (d : Dst) (s : Src) : EncodeLength.Statement (.add d s) :=
  bare3 (encodeTwo_length 1 d s)

theorem EncodeLength.sub (d : Dst) (s : Src) : EncodeLength.Statement (.sub d s) :=
  bare3 (encodeTwo_length 2 d s)

theorem EncodeLength.mul (d : Dst) (s : Src) : EncodeLength.Statement (.mul d s) :=
  bare3 (encodeTwo_length 3 d s)

theorem EncodeLength.div (d : Dst) (s : Src) : EncodeLength.Statement (.div d s) :=
  bare3 (encodeTwo_length 4 d s)

theorem EncodeLength.mov (d : Dst) (s : Src) : EncodeLength.Statement (.mov d s) :=
  bare3 (encodeTwo_length 5 d s)

theorem EncodeLength.cmp (d : Dst) (s : Src) : EncodeLength.Statement (.cmp d s) :=
  bare3 (encodeTwo_length 6 d s)

theorem EncodeLength.jcc (c : Digit) (s : Src) : EncodeLength.Statement (.jcc c s) :=
  lead1 (Src.ext_length s)

theorem EncodeLength.inc (m : Dst) : EncodeLength.Statement (.inc m) :=
  bare2 (encodeDst_length 9 0 m)

theorem EncodeLength.dec (m : Dst) : EncodeLength.Statement (.dec m) :=
  bare2 (encodeDst_length 9 1 m)

theorem EncodeLength.inp (m : Digit) : EncodeLength.Statement (.inp m) :=
  oneWord

theorem EncodeLength.out (m : Digit) : EncodeLength.Statement (.out m) :=
  oneWord

theorem EncodeLength.pop (m : Dst) : EncodeLength.Statement (.pop m) :=
  bare2 (encodeDst_length 9 4 m)

theorem EncodeLength.push (m : Src) : EncodeLength.Statement (.push m) :=
  bare2 (encodeSrc_length 9 5 m)

theorem EncodeLength.call (m : Src) : EncodeLength.Statement (.call m) :=
  bare2 (encodeSrc_length 9 6 m)

theorem EncodeLength.reservedG9T7 (x : Digit) : EncodeLength.Statement (.reservedG9T7 x) :=
  oneWord

theorem EncodeLength.reservedG9T8 (x : Digit) : EncodeLength.Statement (.reservedG9T8 x) :=
  oneWord

theorem EncodeLength.pushz : EncodeLength.Statement (.pushz) :=
  oneWord

theorem EncodeLength.ret : EncodeLength.Statement (.ret) :=
  oneWord

theorem EncodeLength.nop : EncodeLength.Statement (.nop) :=
  oneWord

theorem EncodeLength.lib (x : Word) : EncodeLength.Statement (.lib x) :=
  twoWords

theorem EncodeLength.sys (x : Word) : EncodeLength.Statement (.sys x) :=
  twoWords

theorem EncodeLength.reserved996 : EncodeLength.Statement (.reserved996) :=
  oneWord

theorem EncodeLength.reserved997 : EncodeLength.Statement (.reserved997) :=
  oneWord

theorem EncodeLength.reserved998 : EncodeLength.Statement (.reserved998) :=
  oneWord

theorem EncodeLength.hlt : EncodeLength.Statement (.hlt) :=
  oneWord

theorem EncodeLength.lea (x : Digit) : EncodeLength.Statement (.lea x) :=
  oneWord

theorem EncodeLength.neg (m : Dst) : EncodeLength.Statement (.neg m) :=
  bare2 (encodeDst_length 8 1 m)

theorem EncodeLength.si (x : Digit) : EncodeLength.Statement (.si x) :=
  oneWord

theorem EncodeLength.so (x : Digit) : EncodeLength.Statement (.so x) :=
  oneWord

theorem EncodeLength.movz (m : Dst) : EncodeLength.Statement (.movz m) :=
  bare2 (encodeDst_length 8 4 m)

theorem EncodeLength.cmpz (m : Src) : EncodeLength.Statement (.cmpz m) :=
  bare2 (encodeSrc_length 8 5 m)

theorem EncodeLength.retcc (c : Digit) : EncodeLength.Statement (.retcc c) :=
  oneWord

theorem EncodeLength.reservedG8T7 (x : Digit) : EncodeLength.Statement (.reservedG8T7 x) :=
  oneWord

theorem EncodeLength.reservedG8T8 (x : Digit) : EncodeLength.Statement (.reservedG8T8 x) :=
  oneWord

theorem EncodeLength.reservedG89 (u : Digit) : EncodeLength.Statement (.reservedG89 u) :=
  oneWord

theorem EncodeLength.group0 (t u : Digit) : EncodeLength.Statement (.group0 t u) :=
  oneWord

theorem EncodeLength.or (d : Dst) (s : Src) : EncodeLength.Statement (.or d s) :=
  lead3 (encodeTwo_length 1 d s)

theorem EncodeLength.xor (d : Dst) (s : Src) : EncodeLength.Statement (.xor d s) :=
  lead3 (encodeTwo_length 2 d s)

theorem EncodeLength.and (d : Dst) (s : Src) : EncodeLength.Statement (.and d s) :=
  lead3 (encodeTwo_length 3 d s)

theorem EncodeLength.clr (d : Dst) (s : Src) : EncodeLength.Statement (.clr d s) :=
  lead3 (encodeTwo_length 4 d s)

theorem EncodeLength.shl (d : Dst) (s : Src) : EncodeLength.Statement (.shl d s) :=
  lead3 (encodeTwo_length 5 d s)

theorem EncodeLength.shr (d : Dst) (s : Src) : EncodeLength.Statement (.shr d s) :=
  lead3 (encodeTwo_length 6 d s)

theorem EncodeLength.setcc (t u : Digit) : EncodeLength.Statement (.setcc t u) :=
  twoWords

theorem EncodeLength.not (m : Dst) : EncodeLength.Statement (.not m) :=
  lead2 (encodeDst_length 8 0 m)

theorem EncodeLength.reserved990T (t x : Digit) : EncodeLength.Statement (.reserved990T t x) :=
  twoWords

theorem EncodeLength.reserved990H0 (t u : Digit) : EncodeLength.Statement (.reserved990H0 t u) :=
  twoWords

theorem EncodeLength.reserved990H9 (t u : Digit) : EncodeLength.Statement (.reserved990H9 t u) :=
  twoWords

theorem EncodeLength.tstm (d : Dst) (s : Src) : EncodeLength.Statement (.tstm d s) :=
  lead3 (encodeTwo_length 1 d s)

theorem EncodeLength.scan (t u : Digit) : EncodeLength.Statement (.scan t u) :=
  twoWords

theorem EncodeLength.len (t u : Digit) : EncodeLength.Statement (.len t u) :=
  twoWords

theorem EncodeLength.cnt (t u : Digit) : EncodeLength.Statement (.cnt t u) :=
  twoWords

theorem EncodeLength.rot (t u : Digit) : EncodeLength.Statement (.rot t u) :=
  twoWords

theorem EncodeLength.tst (m : Src) : EncodeLength.Statement (.tst m) :=
  lead2 (encodeSrc_length 6 0 m)

theorem EncodeLength.ctb (m : Dst) : EncodeLength.Statement (.ctb m) :=
  lead2 (encodeDst_length 6 1 m)

theorem EncodeLength.ctd (m : Dst) : EncodeLength.Statement (.ctd m) :=
  lead2 (encodeDst_length 6 2 m)

theorem EncodeLength.rotx (x : Digit) : EncodeLength.Statement (.rotx x) :=
  twoWords

theorem EncodeLength.clrx (x : Digit) : EncodeLength.Statement (.clrx x) :=
  twoWords

theorem EncodeLength.reserved890T (t x : Digit) : EncodeLength.Statement (.reserved890T t x) :=
  twoWords

theorem EncodeLength.reserved890H0 (t u : Digit) : EncodeLength.Statement (.reserved890H0 t u) :=
  twoWords

theorem EncodeLength.reserved890H7 (t u : Digit) : EncodeLength.Statement (.reserved890H7 t u) :=
  twoWords

theorem EncodeLength.reserved890H8 (t u : Digit) : EncodeLength.Statement (.reserved890H8 t u) :=
  twoWords

theorem EncodeLength.reserved890H9 (t u : Digit) : EncodeLength.Statement (.reserved890H9 t u) :=
  twoWords

end Sys2Proof.Laws
end

