-- ==== Sys2Proof/Tests/Slice0.lean ====
section
/-! SUPPORT. The model's own tests: ill-formed terms, words written out from the spec's encodings, the spec's vectors
(spec/95_test_vectors.md) as single steps, and a witness for every statement that has hypotheses. -/

namespace Sys2Proof.Tests

open Sys2Proof.Machine

/-! ### Helpers -/

/-- Right after reset, with these words at address 0. -/
def start (ws : List Nat) : State := hostLoad 0 (ws.map Word.wrap) State.reset

/-- R1 and R2 set. -/
def withR (a b : Word) (s : State) : State := (s.setReg .r1 a).setReg .r2 b

/-- One memory cell set. -/
def withCell (a v : Word) (s : State) : State := s.memWrite a v

/-- What one step makes of a state, if it answers a next state. -/
def after {α : Type} (s : State) (f : State → α) : Option α :=
  match step s with
  | .next t => some (f t)
  | .fault _ => none
  | .refused _ => none

/-- Whether one step is refused, and why. -/
def refusal (s : State) : Option Refusal :=
  match step s with
  | .next _ => none
  | .fault _ => none
  | .refused r => some r

/-- R1, IP and FLAGS. -/
def core3 (t : State) : Word × Word × Word := (t.gpr.r1, t.ip, t.flags)

/-- A cell, LASTW and IP. -/
def cell3 (a : Word) (t : State) : Word × Option Word × Word := (t.memRead a, t.lastw, t.ip)

/-- SP, the cell there, and IP. -/
def stack3 (t : State) : Word × Word × Word := (t.sp, t.memRead t.sp, t.ip)

/-- The decoding of a list of words. -/
def dec (ws : List Word) : Instr := decode (Buffer.ofWords ws)

/-- The decode length of a list of words. -/
def len (ws : List Word) : Nat := decodeLength (Buffer.ofWords ws)

/-! ### WellFormed: each check refuses an ill-formed term (890 is a prefix; 990,80M is NOT; 890,64x is CLRX) -/

theorem test_ill_formed_890 : (Instr.reservedG89 0).wellFormed = false := by decide
theorem test_ill_formed_990_80 : (Instr.reserved990T 0 3).wellFormed = false := by decide
theorem test_ill_formed_890_64 : (Instr.reserved890T 4 3).wellFormed = false := by decide

/-! ### Decode: one word list of the spec's encoding for every constructor (spec/30_encoding.md R91 to R100) -/

theorem test_decode_add : dec [110, 5] = .add (.reg .r1) (.imm 5) ∧
    encode (.add (.reg .r1) (.imm 5)) = [110, 5] := by decide
theorem test_decode_sub : dec [295, 300] = .sub (.abs 300) (.ind .r1) ∧
    encode (.sub (.abs 300) (.ind .r1)) = [295, 300] := by decide
theorem test_decode_mul : dec [322] = .mul (.reg .r2) (.reg .r2) ∧
    encode (.mul (.reg .r2) (.reg .r2)) = [322] := by decide
theorem test_decode_div : dec [495, 0] = .div (.abs 0) (.ind .r1) ∧
    encode (.div (.abs 0) (.ind .r1)) = [495, 0] := by decide
theorem test_decode_mov : dec [590, 300, 42] = .mov (.abs 300) (.imm 42) ∧
    encode (.mov (.abs 300) (.imm 42)) = [590, 300, 42] := by decide
theorem test_decode_cmp : dec [689, 77] = .cmp (.ind .r4) (.abs 77) ∧
    encode (.cmp (.ind .r4) (.abs 77)) = [689, 77] := by decide
theorem test_decode_jcc : dec [749, 300] = .jcc 4 (.abs 300) ∧ encode (.jcc 4 (.abs 300)) = [749, 300] := by decide
theorem test_decode_inc : dec [903] = .inc (.reg .r3) ∧ encode (.inc (.reg .r3)) = [903] := by decide
theorem test_decode_dec : dec [919, 300] = .dec (.abs 300) ∧ encode (.dec (.abs 300)) = [919, 300] := by decide
theorem test_decode_in : dec [921] = .inp 1 ∧ encode (.inp 1) = [921] := by decide
theorem test_decode_out : dec [930] = .out 0 ∧ encode (.out 0) = [930] := by decide
theorem test_decode_pop : dec [949, 300] = .pop (.abs 300) ∧ encode (.pop (.abs 300)) = [949, 300] := by decide
theorem test_decode_push : dec [950, 5] = .push (.imm 5) ∧ encode (.push (.imm 5)) = [950, 5] := by decide
theorem test_decode_call : dec [960, 10] = .call (.imm 10) ∧ encode (.call (.imm 10)) = [960, 10] := by decide
theorem test_decode_g9t7 : dec [975] = .reservedG9T7 5 ∧ encode (.reservedG9T7 5) = [975] := by decide
theorem test_decode_g9t8 : dec [980] = .reservedG9T8 0 ∧ encode (.reservedG9T8 0) = [980] := by decide
theorem test_decode_pushz : dec [991] = .pushz ∧ encode (.pushz) = [991] := by decide
theorem test_decode_ret : dec [992] = .ret ∧ encode (.ret) = [992] := by decide
theorem test_decode_nop : dec [993] = .nop ∧ encode (.nop) = [993] := by decide
theorem test_decode_lib : dec [994, 123] = .lib 123 ∧ encode (.lib 123) = [994, 123] := by decide
theorem test_decode_sys : dec [995, 0] = .sys 0 ∧ encode (.sys 0) = [995, 0] := by decide
theorem test_decode_996 : dec [996] = .reserved996 ∧ encode (.reserved996) = [996] := by decide
theorem test_decode_997 : dec [997] = .reserved997 ∧ encode (.reserved997) = [997] := by decide
theorem test_decode_998 : dec [998] = .reserved998 ∧ encode (.reserved998) = [998] := by decide
theorem test_decode_hlt : dec [999] = .hlt ∧ encode (.hlt) = [999] := by decide
theorem test_decode_lea : dec [805] = .lea 5 ∧ encode (.lea 5) = [805] := by decide
theorem test_decode_neg : dec [811] = .neg (.reg .r1) ∧ encode (.neg (.reg .r1)) = [811] := by decide
theorem test_decode_si : dec [820] = .si 0 ∧ encode (.si 0) = [820] := by decide
theorem test_decode_so : dec [839] = .so 9 ∧ encode (.so 9) = [839] := by decide
theorem test_decode_movz : dec [845] = .movz (.ind .r1) ∧ encode (.movz (.ind .r1)) = [845] := by decide
theorem test_decode_cmpz : dec [854] = .cmpz (.reg .r4) ∧ encode (.cmpz (.reg .r4)) = [854] := by decide
theorem test_decode_retcc : dec [864] = .retcc 4 ∧ encode (.retcc 4) = [864] := by decide
theorem test_decode_g8t7 : dec [870] = .reservedG8T7 0 ∧ encode (.reservedG8T7 0) = [870] := by decide
theorem test_decode_g8t8 : dec [889] = .reservedG8T8 9 ∧ encode (.reservedG8T8 9) = [889] := by decide
theorem test_decode_g89 : dec [891] = .reservedG89 1 ∧ encode (.reservedG89 1) = [891] := by decide
theorem test_decode_group0 : dec [50] = .group0 5 0 ∧ encode (.group0 5 0) = [50] := by decide
theorem test_decode_or : dec [990, 199, 300, 301] = .or (.abs 300) (.abs 301) ∧
    encode (.or (.abs 300) (.abs 301)) = [990, 199, 300, 301] := by decide
theorem test_decode_xor : dec [990, 210, 70] = .xor (.reg .r1) (.imm 70) ∧
    encode (.xor (.reg .r1) (.imm 70)) = [990, 210, 70] := by decide
theorem test_decode_and : dec [990, 368] = .and (.ind .r2) (.ind .r4) ∧
    encode (.and (.ind .r2) (.ind .r4)) = [990, 368] := by decide
theorem test_decode_clr : dec [990, 411] = .clr (.reg .r1) (.reg .r1) ∧
    encode (.clr (.reg .r1) (.reg .r1)) = [990, 411] := by decide
theorem test_decode_shl : dec [990, 512] = .shl (.reg .r1) (.reg .r2) ∧
    encode (.shl (.reg .r1) (.reg .r2)) = [990, 512] := by decide
theorem test_decode_shr : dec [990, 610, 1] = .shr (.reg .r1) (.imm 1) ∧
    encode (.shr (.reg .r1) (.imm 1)) = [990, 610, 1] := by decide
theorem test_decode_setcc : dec [990, 700] = .setcc 0 0 ∧ encode (.setcc 0 0) = [990, 700] := by decide
theorem test_decode_not : dec [990, 801] = .not (.reg .r1) ∧ encode (.not (.reg .r1)) = [990, 801] := by decide
theorem test_decode_990t : dec [990, 810] = .reserved990T 1 0 ∧ encode (.reserved990T 1 0) = [990, 810] := by decide
theorem test_decode_990h0 : dec [990, 0] = .reserved990H0 0 0 ∧ encode (.reserved990H0 0 0) = [990, 0] := by decide
theorem test_decode_990h9 : dec [990, 990] = .reserved990H9 9 0 ∧ encode (.reserved990H9 9 0) = [990, 990] := by decide
theorem test_decode_tstm : dec [890, 110, 70] = .tstm (.reg .r1) (.imm 70) ∧
    encode (.tstm (.reg .r1) (.imm 70)) = [890, 110, 70] := by decide
theorem test_decode_scan : dec [890, 200] = .scan 0 0 ∧ encode (.scan 0 0) = [890, 200] := by decide
theorem test_decode_len : dec [890, 345] = .len 4 5 ∧ encode (.len 4 5) = [890, 345] := by decide
theorem test_decode_cnt : dec [890, 400] = .cnt 0 0 ∧ encode (.cnt 0 0) = [890, 400] := by decide
theorem test_decode_rot : dec [890, 512] = .rot 1 2 ∧ encode (.rot 1 2) = [890, 512] := by decide
theorem test_decode_tst : dec [890, 601] = .tst (.reg .r1) ∧ encode (.tst (.reg .r1)) = [890, 601] := by decide
theorem test_decode_ctb : dec [890, 615] = .ctb (.ind .r1) ∧ encode (.ctb (.ind .r1)) = [890, 615] := by decide
theorem test_decode_ctd : dec [890, 621] = .ctd (.reg .r1) ∧ encode (.ctd (.reg .r1)) = [890, 621] := by decide
theorem test_decode_rotx : dec [890, 630] = .rotx 0 ∧ encode (.rotx 0) = [890, 630] := by decide
theorem test_decode_clrx : dec [890, 649] = .clrx 9 ∧ encode (.clrx 9) = [890, 649] := by decide
theorem test_decode_890t : dec [890, 650] = .reserved890T 5 0 ∧ encode (.reserved890T 5 0) = [890, 650] := by decide
theorem test_decode_890h0 : dec [890, 0] = .reserved890H0 0 0 ∧ encode (.reserved890H0 0 0) = [890, 0] := by decide
theorem test_decode_890h7 : dec [890, 700] = .reserved890H7 0 0 ∧ encode (.reserved890H7 0 0) = [890, 700] := by decide
theorem test_decode_890h8 : dec [890, 890] = .reserved890H8 9 0 ∧ encode (.reserved890H8 9 0) = [890, 890] := by decide
theorem test_decode_890h9 : dec [890, 999] = .reserved890H9 9 9 ∧ encode (.reserved890H9 9 9) = [890, 999] := by decide

/-! ### Decode lengths (spec/95_test_vectors.md L2.1) -/

theorem test_lengths_first_words :
    len [999] = 1 ∧ len [510] = 2 ∧ len [511] = 1 ∧ len [599] = 3 ∧ len [590] = 3 ∧ len [119] = 2 ∧ len [191] = 2 ∧
    len [700] = 1 ∧ len [709] = 2 ∧ len [950] = 2 ∧ len [959] = 1 ∧ len [909] = 2 ∧ len [949] = 1 ∧ len [819] = 1 := by
  decide
theorem test_lengths_two_words :
    len [994, 7] = 2 ∧ len [929, 5] = 2 ∧ len [930, 5] = 2 ∧ len [939] = 1 ∧ len [990, 110] = 3 ∧ len [990, 111] = 2 ∧
    len [990, 199] = 4 ∧ len [990, 190] = 4 ∧ len [990, 809] = 2 ∧ len [890, 100] = 3 ∧ len [890, 199] = 4 ∧
    len [890, 609] = 2 := by
  decide

/-! ### The host's row words: 16 bits a word, the first word lowest (log 13) -/

theorem test_table_word_mov : decodeTableWord 16 591 = some (.mov (.abs 0) (.reg .r1)) := by decide
theorem test_table_word_or : decodeTableWord 32 (990 + 65536 * 199) = some (.or (.abs 0) (.abs 0)) := by decide
theorem test_table_word_not_a_word : decodeTableWord 16 1000 = none := by decide
theorem test_with_fetch_word : after (State.reset.withFetchWord 16 999) (fun t => t.pstate) = some .idle := by decide

/-! ### One step (spec/95_test_vectors.md L1, L2) -/

theorem test_add_wraps : after (withR 999 0 (start [110, 5])) core3 = some (4, 2, 0) := by decide
theorem test_add_memory :
    after (withCell 300 999 (start [190, 300, 2])) (cell3 300) = some (1, some 300, 3) := by decide
theorem test_sub_wraps : after (withR 3 0 (start [210, 5])) core3 = some (998, 2, 0) := by decide
theorem test_sub_same : after (withR 77 0 (start [211])) core3 = some (0, 1, 0) := by decide
theorem test_mul_wraps : after (withR 999 0 (start [310, 999])) core3 = some (1, 2, 0) := by decide
theorem test_mul : after (withR 123 8 (start [312])) core3 = some (984, 1, 0) := by decide
theorem test_div : after (withR 7 0 (start [410, 2])) core3 = some (3, 2, 0) := by decide
theorem test_div_zero :
    after (withR 7 0 (start [410, 0])) (fun t => (t.gpr.r1, t.ip, t.pstate)) = some (7, 2, PState.error) := by decide
theorem test_inc_mode0 : refusal (start [900]) = some .unspecDstMode0 := by decide
theorem test_inc_wraps : after (withR 999 0 (start [901])) core3 = some (0, 1, 0) := by decide
theorem test_dec_memory : after (start [919, 300]) (cell3 300) = some (999, some 300, 2) := by decide
theorem test_neg : after (withR 1 0 (start [811])) core3 = some (999, 1, 0) := by decide
theorem test_neg_shortfall :
    after (withCell 300 5 (start [819, 300])) (cell3 300) = some (995, some 300, 1) := by decide
theorem test_mov_memory :
    after (withCell 301 42 (start [599, 300, 301])) (cell3 300) = some (42, some 300, 3) := by decide
theorem test_mov_immediate : after (start [510, 48]) (fun t => (t.gpr.r1, t.lastw)) = some (48, none) := by decide
theorem test_movz : after (withCell 300 9 (withR 300 0 (start [845]))) (cell3 300) = some (0, some 300, 1) := by decide
theorem test_cmp_unsigned : after (withR 999 0 (start [610, 0])) core3 = some (999, 2, 2) := by decide
theorem test_cmp_below : after (withR 3 0 (start [610, 5])) core3 = some (3, 2, 1) := by decide
theorem test_cmpz_500 : after (withR 500 0 (start [851])) core3 = some (500, 1, 1) := by decide
theorem test_cmpz_499 : after (withR 499 0 (start [851])) core3 = some (499, 1, 2) := by decide
theorem test_push_wraps : after (start [950, 5]) stack3 = some (999, 5, 2) := by decide
theorem test_push_lastw : after (start [950, 5]) (fun t => t.lastw) = some none := by decide
theorem test_pop :
    after (withCell 998 55 ((start [949, 300]).setSp 998)) (fun t => (cell3 300 t, t.sp)) = some ((55, some 300, 1), 999) := by decide
theorem test_pop_wraps :
    after (withCell 999 5 ((start [942]).setSp 999)) (fun t => (t.gpr.r2, t.sp)) = some (5, 0) := by decide
theorem test_pushz : after (withCell 999 5 (start [991])) stack3 = some (999, 0, 1) := by decide
theorem test_jcc_not_equal : after (((start [733]).setFlags 2).setReg .r3 6) (fun t => t.ip) = some 6 := by decide
theorem test_jcc_not_taken : after ((start [770, 50]).setFlags 0) (fun t => t.ip) = some 1 := by decide
theorem test_call : after (start [969, 300]) (fun t => (stack3 t, t.lastw)) = some ((999, 1, 0), none) := by decide
theorem test_call_immediate : after (start [960, 10]) stack3 = some (999, 2, 10) := by decide
theorem test_ret : after (withCell 999 6 ((start [992]).setSp 999)) (fun t => (t.ip, t.sp)) = some (6, 0) := by decide
theorem test_retcc_taken :
    after (withCell 999 6 (((start [864]).setSp 999).setFlags 4)) (fun t => (t.ip, t.sp)) = some (6, 0) := by decide
theorem test_retcc_not_taken :
    after (((start [864]).setSp 999).setFlags 2) (fun t => (t.ip, t.sp)) = some (1, 999) := by decide
theorem test_nop : after (withCell 5 993 ((start []).setIp 5)) (fun t => t.ip) = some 6 := by decide
theorem test_hlt : after (start [999]) (fun t => (t.pstate, t.ip)) = some (PState.idle, 1) := by decide
theorem test_or : after (withR 123 0 (start [990, 110, 70])) core3 = some (173, 3, 0) := by decide
theorem test_or_out_of_domain : after (withR 999 0 (start [990, 110, 1])) core3 = some (1, 3, 0) := by decide
theorem test_xor : after (withR 123 0 (start [990, 210, 70])) core3 = some (153, 3, 0) := by decide
theorem test_and : after (withR 123 0 (start [990, 310, 70])) core3 = some (20, 3, 0) := by decide
theorem test_clr : after (withR 123 0 (start [990, 410, 70])) core3 = some (103, 3, 0) := by decide
theorem test_shl_mod_10 : after (withR 123 0 (start [990, 510, 13])) core3 = some (230, 3, 0) := by decide
theorem test_shl_register : after (withR 1 4 (start [990, 512])) core3 = some (20, 2, 0) := by decide
theorem test_shr : after (withR 123 0 (start [990, 610, 1])) core3 = some (51, 3, 0) := by decide
theorem test_not : after (withR 123 0 (start [990, 801])) core3 = some (654, 2, 0) := by decide
theorem test_not_shortfall : after (start [990, 809, 300]) (cell3 300) = some (777, some 300, 2) := by decide
theorem test_tst_full_probe : (classifyUnder 0x1FF (tc 0), classifyUnder 0x1FF (tc 777), classifyUnder 0x1FF (tc 123)) = (1, 2, 4) :=
  by decide
theorem test_tst_other_probes : (classifyUnder 1 (tc 1), classifyUnder 0 (tc 777)) = (2, 1) := by decide
theorem test_tstm_keeps_the_rest :
    after (withR 100 0 (start [890, 110, 70])) (fun t => (t.gpr.r1, t.ip)) = some (100, 3) := by decide
theorem test_ctb :
    after (withCell 300 456 (withR 300 0 (start [890, 615]))) (cell3 300) = some (302, some 300, 2) := by decide
theorem test_ctd : after (withR 512 0 (start [890, 621])) core3 = some (0, 2, 0) := by decide
theorem test_ctd_511 : after (withR 511 0 (start [890, 621])) core3 = some (777, 2, 0) := by decide
theorem test_group0 :
    after (withR 5 0 (start [0])) (fun t => (t.pstate, t.ip, t.gpr.r1)) = some (PState.error, 1, 5) := by decide
theorem test_out :
    after (withR 5 0 (start [930, 5])) (fun t => (t.pstate, t.ip, t.gpr.r1)) = some (PState.error, 2, 5) := by decide
theorem test_prefix_twice : after (start [990, 990]) (fun t => (t.pstate, t.ip)) = some (PState.error, 2) := by decide
theorem test_fetch_wraps :
    after (withCell 999 510 (withCell 0 48 ((start []).setIp 999))) core3 = some (48, 1, 0) := by decide
theorem test_error_is_terminal :
    after ((start [510, 48]).setPstate .error) (fun t => (t.ip, t.gpr.r1)) = some (0, 0) := by decide
theorem test_reset_region : (fun t : State => (t.ip, t.pstate, t.lastw, t.memRead 700, t.memRead 701, t.memRead 702))
    (hostReset 700 2 (withCell 702 3 (withCell 701 2 (withCell 700 1 (((start []).setIp 57).setPstate .error))))) = (0, PState.running, none, 0, 0, 3) := by decide

/-! ### Witnesses: hypotheses of the statements that have some, met by concrete states and operands -/

/-- OPMAPs that keep the confirmed digits: the default, and one with INC and DEC, and RET and LIB, exchanged. -/
def otherMap : OpMap := { OpMap.default with group9 := Equiv.swap 0 1, group99 := Equiv.swap 2 4 }
theorem witness_OpMap :
    OpMap.default.wf ∧ otherMap.wf ∧ decodeWith otherMap (Buffer.ofWords [901]) = .dec (.reg .r1) ∧
    encodeWith otherMap .ret = [994] ∧ decodeLengthWith otherMap Config.decodeCaps (Buffer.ofWords [992]) = 2 := by decide
theorem test_opmap_is_default : Config.opmap = OpMap.default := rfl
theorem witness_DecodeOfEncodeGivesTheInstruction :
    (Instr.reservedG89 1).wellFormed = true ∧ (Instr.reservedG89 9).wellFormed = true ∧
    (Instr.reserved990T 1 0).wellFormed = true ∧ (Instr.reserved890T 5 0).wellFormed = true ∧
    (Instr.add .mode0 (.abs 999)).wellFormed = true ∧ dec (encode (.reserved890T 5 0) ++ [7]) = .reserved890T 5 0 := by decide
theorem witness_DecodeLengthIsOneToFour :
    (599 : Word) ≠ 990 ∧ (599 : Word) ≠ 890 ∧ len [599] = 3 ∧ len [990, 190] = 4 ∧ len [990, 699] = 4 ∧ len [890, 190] = 4 ∧
    len [990, 790] = 2 ∧ len [890, 290] = 2 := by decide
/-- Shortfall forms at the ends of R311's list, and implemented forms beside them that are none. -/
theorem witness_ShortfallFormsAreTheListedOnes :
    (∀ p ∈ ([(700, 0), (790, 0), (949, 0), (850, 0), (890, 600), (890, 629)] : List (Word × Word)),
      (dec [p.1, p.2]).isReserved = false ∧ shortfallWords p.1 p.2) ∧
    ∀ p ∈ ([(701, 0), (709, 0), (940, 0), (890, 601), (890, 628), (990, 808)] : List (Word × Word)),
      (dec [p.1, p.2]).isReserved = false ∧ ¬ shortfallWords p.1 p.2 := by
  simp [shortfallWords, dec]; decide
/-- Unmapped encodings at the ends of R120's ranges, and their neighbours that are mapped. -/
theorem witness_UnmappedEncodingsAreTheListedOnes :
    (start [99]).pstate = .running ∧
    (∀ p ∈ ([(0, 0), (99, 0), (920, 0), (939, 0), (970, 0), (998, 0), (899, 0), (990, 810), (990, 99), (890, 630)] :
      List (Word × Word)), unmappedWords p.1 p.2) ∧
    ∀ p ∈ ([(100, 0), (919, 0), (940, 0), (969, 0), (999, 0), (890, 600), (890, 629), (990, 100), (990, 809)] :
      List (Word × Word)), ¬ unmappedWords p.1 p.2 := by
  simp [unmappedWords, start, hostLoad, State.reset]
/-- Refused encodings, and neighbours that are not. -/
theorem witness_RefusedEncodingsAreTheListedOnes :
    (start [100]).pstate = .running ∧
    (∀ p ∈ ([(100, 0), (609, 0), (900, 0), (940, 0), (990, 100), (990, 800), (890, 109), (890, 620)] :
      List (Word × Word)), dstMode0Words p.1 p.2) ∧
    ∀ p ∈ ([(110, 0), (700, 0), (901, 0), (950, 0), (990, 110), (990, 801), (890, 110), (890, 600)] :
      List (Word × Word)), ¬ dstMode0Words p.1 p.2 := by
  simp [dstMode0Words, start, hostLoad, State.reset]
/-- At 299 a NOP, which stores nothing, so the word written to cell 300 before it is still there for the next fetch. -/
theorem witness_LaterFetchesSeeStores :
    (∃ t, RunsKeeping ((withCell 299 993 ((start []).setIp 299)).xlat 300) 1
        ((withCell 299 993 ((start []).setIp 299)).memWrite 300 5) t ∧
      t.xlat (Word.wrap (t.ip.val + (0 : Digit).val)) = (withCell 299 993 ((start []).setIp 299)).xlat 300) ∧
    RunsKeeping 1 0 (start []) (start []) ∧ (start []).xlat (Word.wrap ((start []).ip.val + (1 : Digit).val)) = 1 ∧
    ∃ u, host (.writeMem 1 999) (start []) = .next u ∧ RunsKeeping 1 0 u u ∧
      u.xlat (Word.wrap (u.ip.val + (1 : Digit).val)) = 1 :=
  ⟨⟨_, ⟨_, rfl, fun _ => by decide, rfl⟩, by decide⟩, rfl, by decide, _, rfl, rfl, by decide⟩
theorem witness_StepRunsTheDecodedInstruction :
    (start [110, 5]).pstate = .running ∧ (Instr.add (.reg .r1) (.imm 5)).wellFormed = true ∧
    decode (start [110, 5]).fetchBuffer = .add (.reg .r1) (.imm 5) := by decide
theorem witness_CoreDoesNothingOutsideRunning :
    ((start []).setPstate .idle).pstate ≠ .running ∧ ((start []).setPstate .error).pstate ≠ .running := by decide
theorem witness_OnlyResetLeavesError :
    ((start []).setPstate .error).pstate = .error ∧
    ∃ t, host (.reset 0 0) ((start []).setPstate .error) = .next t ∧ t.pstate ≠ .error :=
  ⟨rfl, _, rfl, by decide⟩
/-- Destinations with and without mode digit 0, for every statement about an instruction that has one:
AddSubMulAreModulo1000, DivDividesOrEntersError, IncDecNegAreModulo1000, MovCopiesTheSource, MovzClearsTheDestination,
CmpSetsFlagsByUnsignedOrder, PopLoadsFromTheStackPointer, BitLogicActsOnTranscodedValues, ShiftsMoveTranscodedBits,
NotComplementsNineBits, BitTestsClassifyUnderTheProbe and ConversionsTranscodeTheDestination. -/
theorem witness_Destinations :
    Dst.mode0 = .mode0 ∧ Dst.reg .r1 ≠ .mode0 ∧ Dst.reg .r4 ≠ .mode0 ∧ Dst.ind .r1 ≠ .mode0 ∧ Dst.abs 0 ≠ .mode0 ∧
    Dst.abs 999 ≠ .mode0 := by decide
theorem witness_DivDividesOrEntersError :
    Dst.reg .r1 ≠ .mode0 ∧ (start []).srcValue (.imm 0) = 0 ∧ (start []).srcValue (.imm 1) ≠ 0 ∧
    (start []).srcValue (.imm 999) ≠ 0 := by decide
theorem witness_CmpSetsFlagsByUnsignedOrder :
    Dst.reg .r1 ≠ .mode0 ∧
    ((withR 4 0 (start [])).dstValue (.reg .r1)).val < ((start []).srcValue (.imm 5)).val ∧
    ((start []).srcValue (.imm 5)).val < ((withR 6 0 (start [])).dstValue (.reg .r1)).val ∧
    (withR 5 0 (start [])).dstValue (.reg .r1) = (start []).srcValue (.imm 5) := by decide
theorem witness_CmpzSetsFlagsByComplementSign :
    500 ≤ ((start []).srcValue (.imm 500)).val ∧ 500 ≤ ((start []).srcValue (.imm 999)).val ∧
    1 ≤ ((start []).srcValue (.imm 1)).val ∧ ((start []).srcValue (.imm 499)).val ≤ 499 ∧ (start []).srcValue (.imm 0) = 0 := by decide
/-- For JccJumpsWhenAMaskedFlagIsSet and ReturnsPopIntoIp: a condition that holds and one that does not. -/
theorem witness_Conditions :
    ((start []).setFlags 4).flags.val &&& (6 : Digit).val ≠ 0 ∧ ((start []).setFlags 4).flags.val &&& (9 : Digit).val = 0 := by decide
theorem witness_TranscodingIsABijectionOnItsDomain :
    7 < (8 : Word).units.val ∧ 7 < (80 : Word).tens.val ∧ 7 < (800 : Word).hundreds.val ∧ (777 : Word).hundreds.val ≤ 7 ∧
    (777 : Word).tens.val ≤ 7 ∧ (777 : Word).units.val ≤ 7 ∧ (511 : Word).val ≤ 511 ∧ 511 < (512 : Word).val := by decide
theorem witness_LogicActsDigitByDigit :
    isDigitDecimal 777 = true ∧ isDigitDecimal 0 = true ∧ Dst.reg .r1 ≠ .mode0 ∧
    isDigitDecimal ((withR 123 70 (start [])).dstValue (.reg .r1)) = true ∧
    isDigitDecimal ((withR 123 70 (start [])).srcValue (.reg .r2)) = true ∧
    ((start []).srcValue (.imm 3)).val % 10 = 3 ∧ ((start []).srcValue (.imm 993)).val % 10 = 3 := by decide
theorem witness_BitTestsClassifyUnderTheProbe :
    tc 0 &&& 0x1FF#9 = 0 ∧ tc 777 &&& 0x1FF#9 ≠ 0 ∧ tc 777 &&& 0x1FF#9 = 0x1FF#9 ∧ tc 123 &&& 0x1FF#9 ≠ 0 ∧
    tc 123 &&& 0x1FF#9 ≠ 0x1FF#9 := by decide
theorem witness_UnnamedReservedEntriesEnterError :
    (1 : Digit) ≠ 0 ∧ 1 ≤ (1 : Digit).val ∧ 5 ≤ (5 : Digit).val ∧ 5 ≤ (9 : Digit).val := by decide
theorem witness_EnteringErrorSavesNothing :
    (start [0]).pstate = .running ∧ ∃ t, step (start [0]) = .next t ∧ t.pstate = .error :=
  ⟨rfl, (fetch (start [0])).setPstate .error, rfl, rfl⟩
theorem witness_ProcessorStateTransitions :
    ((start []).setPstate .idle).pstate = .idle ∧ ((start []).setPstate .error).pstate ≠ .idle ∧
    (start []).pstate = .running ∧ exec .hlt (start []) = .next ((start []).setPstate .idle) ∧
    (Instr.group0 9 9).isReserved = true ∧ exec (.group0 9 9) (start []) = .next ((start []).setPstate .error) ∧
    (start []).srcValue (.imm 0) = 0 ∧
    exec (.div (.reg .r1) (.imm 0)) (start []) = .next ((start []).setPstate .error) ∧
    Instr.nop ≠ .hlt ∧ Instr.nop.isReserved = false ∧ exec .nop (start []) = .next (start []) ∧
    ∃ t, host .run ((start []).setPstate .idle) = .next t ∧ t.pstate ≠ ((start []).setPstate .idle).pstate :=
  ⟨rfl, by decide, rfl, rfl, rfl, rfl, rfl, rfl, by decide, rfl, rfl, _, rfl, by decide⟩
/-- A DIV of a source other than 0, which leaves Running. -/
theorem witness_ProcessorStateTransitions_div :
    exec (.div (.reg .r1) (.imm 1)) (start []) = .next ((start []).setReg .r1 0) ∧
    (start []).srcValue (.imm 1) ≠ 0 :=
  ⟨rfl, by decide⟩
theorem witness_OnlyComparesAndBitTestsWriteFlags :
    writesFlags .nop = false ∧ exec .nop (start []) = .next (start []) ∧ writesFlags (.cmpz (.imm 0)) = true ∧
    exec (.cmpz (.imm 0)) (start []) = .next ((start []).setFlags 4) :=
  ⟨rfl, rfl, rfl, rfl⟩
theorem witness_OnlyConditionalsReadFlags :
    readsFlags (.cmpz (.imm 0)) = false ∧ writesFlags (.cmpz (.imm 0)) = true ∧ readsFlags .nop = false ∧
    writesFlags .nop = false ∧ condHolds 1 3 = condHolds 2 3 := by decide
theorem witness_OnlyStackInstructionsUseSp : usesStack .nop = false ∧ usesStack (.add (.reg .r1) (.imm 1)) = false :=
  by decide
theorem witness_StepsDoNotReachHostOnlyRegisters :
    SameToInstructions (start [110, 5]) ((((start [110, 5]).setReg .r5 7).setReg .r8 9).setLastw 3) := rfl
theorem witness_EveryStepKeepsTheInvariant :
    State.reset.Inv ∧ step State.reset = .next ((fetch State.reset).setPstate .error) :=
  ⟨⟨⟨List.Pairwise.nil, fun _ h => absurd h List.not_mem_nil⟩, rfl⟩, rfl⟩
theorem witness_EveryHostActionKeepsTheInvariant : State.reset.Inv ∧ host .run State.reset = .next State.reset :=
  ⟨⟨⟨List.Pairwise.nil, fun _ h => absurd h List.not_mem_nil⟩, rfl⟩, rfl⟩
theorem witness_EveryStepKeepsFlagsOneHot :
    oneHot ((start []).setFlags 4).flags ∧
    ∃ t, step ((start []).setFlags 4) = .next t :=
  ⟨.inr (.inr rfl), _, rfl⟩
theorem witness_MemoryWritesAreReadBack : (301 : Word) ≠ (start []).xlat 300 := by decide
theorem witness_InstructionsStoreOnlyToTheirCell :
    (∃ t, exec .pushz (start []) = .next t) ∧ storedCell .pushz (start []) ≠ some 0 ∧
    storedCell .pushz (start []) = some 999 ∧ storedCell (.div (.abs 5) (.imm 0)) (start []) ≠ some 5 :=
  ⟨⟨_, rfl⟩, by decide, by decide, by decide⟩
theorem witness_RegisterIndicesNumberTheSlots :
    slotPresent .sp = true ∧ slotPresent (.rsv 1) = true ∧ slotPresent (.rsv 2) = false ∧
    slotOfIndex (indexOfSlot (.rsv 1)) = some (.rsv 1) :=
  ⟨rfl, rfl, rfl, by unfold slotOfIndex indexOfSlot; rw [Equiv.symm_apply_apply]; rfl⟩
theorem witness_PopAfterPushReturnsThePushedValue :
    GReg.r8 ≠ gregOf .r1 ∧ GReg.r2 ≠ gregOf .r1 := by decide
theorem witness_HostMemoryWritesSetOneCell :
    (999 : Nat) < 1000 ∧ (0 : Nat) < 1000 ∧ 1000 ≤ (1000 : Nat) ∧ (301 : Word) ≠ 300 := by decide
theorem witness_HostRegisterWritesSetOneSlot :
    (hostReadSlot State.reset .ip).isSome = true ∧ (999 : Nat) < 1000 ∧ Slot.ip ≠ .zero ∧ Slot.sp ≠ .ip ∧
    (hostReadSlot State.reset (.rsv 1)).isSome = true ∧ 1000 ≤ (1000 : Nat) ∧
    (hostReadSlot State.reset (.rsv 2)).isSome = false := by decide
theorem witness_TextWindowShowsItsCells :
    (0 : Word).val ≤ 4 ∧ (4 : Word).val ≤ 4 := by decide

end Sys2Proof.Tests
end

/-! ## Shapes and effects of instructions

The few shapes that the meanings of the 62 instructions have, and what an instruction of each shape can
make of a state (spec/10_state.md R22 to R30). Statements about all instructions are proved over the shapes. -/

namespace Sys2Proof.Machine

/-! ### Shapes of instructions -/

/-- The shapes of the instructions' meanings. A flag computation carries the proof that it is one-hot
(spec/10_state.md R30). -/
inductive Shape where
  /-- the destination takes `f` of its value and the source's -/
  | assign (f : Word → Word → Word) (d : Dst) (src : Src)
  /-- DIV, which may raise an error -/
  | divide (d : Dst) (src : Src)
  /-- FLAGS takes `f` of the destination's value and the source's -/
  | compare (f : Word → Word → Word) (hf : ∀ x y, oneHot (f x y)) (d : Dst) (src : Src)
  /-- FLAGS takes `f` of the source's value -/
  | test (f : Word → Word) (hf : ∀ x, oneHot (f x)) (src : Src)
  | jumpIf (c : Digit) (src : Src)
  | pop (d : Dst)
  | push (src : Src)
  | call (src : Src)
  | ret
  | retIf (c : Digit)
  /-- only PSTATE is written -/
  | stop (p : PState)
  | nothing

/-- What an instruction of a shape does. -/
def Shape.run (s : State) : Shape → Result
  | .assign f d src => combineDst f d src s
  | .divide d src => execDiv d src s
  | .compare f _ d src => flagsFromDst f d src s
  | .test f _ src => flagsFromSrc f src s
  | .jumpIf c src => execJcc c src s
  | .pop d => execPop d s
  | .push src => execPush src s
  | .call src => execCall src s
  | .ret => execRet s
  | .retIf c => execRetcc c s
  | .stop p => .next (s.setPstate p)
  | .nothing => .next s

theorem compareFlags_oneHot (dv sv : Word) : oneHot (compareFlags dv sv) := by
  unfold compareFlags
  split_ifs
  · exact .inl rfl
  · exact .inr (.inl rfl)
  · exact .inr (.inr rfl)

theorem signFlags_oneHot (sv : Word) : oneHot (signFlags sv) := by
  unfold signFlags
  split_ifs
  · exact .inl rfl
  · exact .inr (.inl rfl)
  · exact .inr (.inr rfl)

theorem classify_oneHot (y : BitVec 9) : oneHot (classify y) := by
  unfold classify classifyUnder
  split_ifs
  · exact .inl rfl
  · exact .inr (.inl rfl)
  · exact .inr (.inr rfl)

/-- The shape of an instruction; the reserved encodings all enter the Error state (spec/46_reserved.md R256). A form
with a destination alone has the shape of one whose source it does not look at. -/
def shapeOf : Instr → Shape
  | .add d src => .assign (fun dv sv => Word.wrap (dv.val + sv.val)) d src
  | .sub d src => .assign (fun dv sv => Word.wrap (1000 + dv.val - sv.val)) d src
  | .mul d src => .assign (fun dv sv => Word.wrap (dv.val * sv.val)) d src
  | .div d src => .divide d src
  | .mov d src => .assign (fun _ sv => sv) d src
  | .cmp d src => .compare compareFlags compareFlags_oneHot d src
  | .jcc c src => .jumpIf c src
  | .inc m => .assign (fun dv _ => Word.wrap (dv.val + 1)) m (.imm 0)
  | .dec m => .assign (fun dv _ => Word.wrap (999 + dv.val)) m (.imm 0)
  | .pop m => .pop m
  | .push m => .push m
  | .call m => .call m
  | .pushz => .push (.imm 0)
  | .ret => .ret
  | .nop => .nothing
  | .hlt => .stop .idle
  | .neg m => .assign (fun dv _ => Word.wrap (1000 - dv.val)) m (.imm 0)
  | .movz m => .assign (fun _ sv => sv) m (.imm 0)
  | .cmpz m => .test signFlags signFlags_oneHot m
  | .retcc c => .retIf c
  | .or d src => .assign (fun dv sv => wordOfBits (tc dv ||| tc sv)) d src
  | .xor d src => .assign (fun dv sv => wordOfBits (tc dv ^^^ tc sv)) d src
  | .and d src => .assign (fun dv sv => wordOfBits (tc dv &&& tc sv)) d src
  | .clr d src => .assign (fun dv sv => wordOfBits (tc dv &&& (tc sv ^^^ 0x1FF#9))) d src
  | .shl d src => .assign (fun dv sv => wordOfBits (tc dv <<< (sv.val % 10))) d src
  | .shr d src => .assign (fun dv sv => wordOfBits (tc dv >>> (sv.val % 10))) d src
  | .not m => .assign (fun dv _ => wordOfBits (tc dv ^^^ 0x1FF#9)) m (.imm 0)
  | .tstm d src =>
    .compare (fun dv sv => classify (tc dv &&& tc sv)) (fun dv sv => classify_oneHot (tc dv &&& tc sv)) d src
  | .tst m => .test (fun sv => classify (tc sv)) (fun sv => classify_oneHot (tc sv)) m
  | .ctb m => .assign (fun dv _ => Word.wrap (tc dv).toNat) m (.imm 0)
  | .ctd m => .assign (fun dv _ => tcinv dv) m (.imm 0)
  | _ => .stop .error

/-- An instruction does what its shape does. -/
theorem exec_eq_run (i : Instr) (s : State) : exec i s = (shapeOf i).run s := by
  cases i <;> rfl

/-- The shapes that write FLAGS. -/
def Shape.writesFlags : Shape → Bool
  | .compare _ _ _ _ | .test _ _ _ => true
  | _ => false

/-- The shapes that test a condition. -/
def Shape.readsFlags : Shape → Bool
  | .jumpIf _ _ | .retIf _ => true
  | _ => false

/-- The shapes that push or pop. -/
def Shape.usesStack : Shape → Bool
  | .pop _ | .push _ | .call _ | .ret | .retIf _ => true
  | _ => false

theorem writesFlags_eq (i : Instr) : writesFlags i = (shapeOf i).writesFlags := by cases i <;> rfl

theorem readsFlags_eq (i : Instr) : readsFlags i = (shapeOf i).readsFlags := by cases i <;> rfl

theorem usesStack_eq (i : Instr) : usesStack i = (shapeOf i).usesStack := by cases i <;> rfl

/-! ### The conditionals, by the outcome of the test -/

section
variable {c : Digit} {src : Src} {s : State}

theorem execJcc_taken (h : condHolds s.flags c = true) : execJcc c src s = .next (s.setIp (s.srcValue src)) := by
  simp [execJcc, h]

theorem execJcc_not_taken (h : condHolds s.flags c = false) : execJcc c src s = .next s := by
  simp [execJcc, h]

theorem execRetcc_taken (h : condHolds s.flags c = true) : execRetcc c s = .next s.popIp := by
  simp [execRetcc, h]

theorem execRetcc_not_taken (h : condHolds s.flags c = false) : execRetcc c s = .next s := by
  simp [execRetcc, h]

end

/-! ### What one instruction can make of a state -/

/-- The locations that operands name: memory and R1 to R4 (spec/10_state.md R22). -/
def Loc.Named : Loc → Prop
  | .reg r => ∃ m, r = gregOf m
  | .mem _ => True

theorem State.dstLoc_named {s : State} {d : Dst} {l : Loc} (h : s.dstLoc d = some l) : l.Named := by
  cases d with
  | mode0 => cases h
  | reg r => cases h; exact ⟨r, rfl⟩
  | ind r => cases h; trivial
  | abs a => cases h; trivial

/-- `Effect s stack flags t`: `t` is one of the states that an instruction can make of `s`; `stack` says whether it is
a stack instruction and `flags` whether it writes FLAGS. -/
inductive Effect (s : State) : (stack flags : Bool) → State → Prop where
  | store (l : Loc) (v : Word) : l.Named → Effect s false false (s.writeLoc l v)
  | setFlags (v : Word) : oneHot v → Effect s false true (s.setFlags v)
  | jump (v : Word) : Effect s false false (s.setIp v)
  | stop (p : PState) : Effect s false false (s.setPstate p)
  | pop (l : Loc) (v : Word) : l.Named → Effect s true false (s.popped.writeLoc l v)
  | push (v : Word) : Effect s true false (s.push v)
  | call (v : Word) : Effect s true false ((s.push s.ip).setIp v)
  | ret : Effect s true false s.popIp
  /-- NOP, and the conditionals that are not taken -/
  | stay (stack : Bool) : Effect s stack false s

theorem Shape.run_effect {s t : State} (sh : Shape) (h : sh.run s = .next t) :
    Effect s sh.usesStack sh.writesFlags t := by
  cases sh with
  | assign f d src =>
    obtain ⟨l, hl, rfl⟩ := combineDst_next f d src s t h
    exact .store l _ (State.dstLoc_named hl)
  | divide d src =>
    obtain ⟨l, hl, hk⟩ := withDst_next d s t _ h
    split_ifs at hk
    · cases hk; exact .stop .error
    · cases hk; exact .store l _ (State.dstLoc_named hl)
  | compare f hf d src =>
    obtain ⟨l, -, rfl⟩ := flagsFromDst_next f d src s t h
    exact .setFlags _ (hf _ _)
  | test f hf src => cases h; exact .setFlags _ (hf _)
  | jumpIf c src =>
    cases h
    split_ifs
    · exact .jump _
    · exact .stay false
  | pop d =>
    obtain ⟨l, hl, hk⟩ := withDst_next d s t _ h
    cases hk; exact .pop l _ (State.dstLoc_named hl)
  | push src => cases h; exact .push _
  | call src => cases h; exact .call _
  | ret => cases h; exact .ret
  | retIf c =>
    cases h
    split_ifs
    · exact .ret
    · exact .stay true
  | stop p => cases h; exact .stop p
  | nothing => cases h; exact .stay false

/-- What an instruction that answers a next state can have done. -/
theorem exec_effect {i : Instr} {s t : State} (h : exec i s = .next t) :
    Effect s (usesStack i) (writesFlags i) t := by
  rw [usesStack_eq, writesFlags_eq]
  exact (shapeOf i).run_effect (exec_eq_run i s ▸ h)

/-- Only stack instructions write SP. -/
theorem Effect.sp_eq {s t : State} {w : Bool} (h : Effect s false w t) : t.sp = s.sp := by
  cases h with
  | store l v _ => exact State.writeLoc_sp s l v
  | setFlags | jump | stop | stay => rfl

/-- An instruction that is no writer of FLAGS keeps them. -/
theorem Effect.flags_eq {s t : State} {k : Bool} (h : Effect s k false t) : t.flags = s.flags := by
  cases h with
  | store l v _ => exact State.writeLoc_flags s l v
  | pop l v _ => exact State.writeLoc_flags s.popped l v
  | jump | stop | push | call | ret | stay => rfl

/-- A writer of FLAGS leaves them one-hot. -/
theorem Effect.flags_oneHot {s t : State} {k : Bool} (h : Effect s k true t) : oneHot t.flags := by
  cases h with
  | setFlags v hv => exact hv

/-- No instruction writes the translator, and each keeps memory canonical. -/
theorem Effect.inv {s t : State} {k w : Bool} (h : Effect s k w t) (hs : s.Inv) : t.Inv := by
  obtain ⟨hm, hx⟩ := hs
  cases h with
  | store l v _ => exact ⟨State.writeLoc_wf s l v hm, (State.writeLoc_xlatt s l v).trans hx⟩
  | pop l v _ => exact ⟨State.writeLoc_wf s.popped l v hm, (State.writeLoc_xlatt s.popped l v).trans hx⟩
  | push v => exact ⟨State.push_wf s v hm, hx⟩
  | call v => exact ⟨State.push_wf s s.ip hm, hx⟩
  | setFlags | jump | stop | ret | stay => exact ⟨hm, hx⟩

/-- `t` holds in R5 to R8, VER and RSV what `s` does. -/
def KeepsHostOnly (s t : State) : Prop :=
  t.gpr.r5 = s.gpr.r5 ∧ t.gpr.r6 = s.gpr.r6 ∧ t.gpr.r7 = s.gpr.r7 ∧ t.gpr.r8 = s.gpr.r8 ∧ t.ver = s.ver ∧ t.rsv = s.rsv

theorem KeepsHostOnly.refl (s : State) : KeepsHostOnly s s := ⟨rfl, rfl, rfl, rfl, rfl, rfl⟩

/-- A write to a named location reaches neither R5 to R8 nor VER and RSV. -/
theorem State.writeLoc_keepsHostOnly (s : State) (l : Loc) (v : Word) (hl : l.Named) :
    KeepsHostOnly s (s.writeLoc l v) := by
  cases l with
  | mem a => exact KeepsHostOnly.refl s
  | reg r =>
    obtain ⟨m, rfl⟩ := hl
    cases m <;> exact KeepsHostOnly.refl s

/-- No instruction writes R5 to R8, VER or RSV. -/
theorem Effect.keepsHostOnly {s t : State} {k w : Bool} (h : Effect s k w t) : KeepsHostOnly s t := by
  cases h with
  | store l v hl => exact s.writeLoc_keepsHostOnly l v hl
  | pop l v hl => exact s.popped.writeLoc_keepsHostOnly l v hl
  | setFlags | jump | stop | push | call | ret | stay => exact KeepsHostOnly.refl s

/-! ### From instructions to steps -/

/-- EXECUTE leaves the state as it is or runs the instruction in the buffer (spec/30_encoding.md R90). -/
theorem execute_next {s t : State} (h : execute s = .next t) : t = s ∨ exec (decode s.buf) s = .next t := by
  unfold execute at h
  split_ifs at h
  · exact .inr h
  · cases h; exact .inl rfl

theorem step_of_running {s : State} (h : s.pstate = .running) :
    step s = exec (decode s.fetchBuffer) (fetch s) := by
  simp [step, cycle, execute, h]

theorem step_of_not_running {s : State} (h : s.pstate ≠ .running) : step s = .next s := by
  simp [step, cycle, h]

/-- A step leaves the state as it is or runs the fetched instruction (spec/70_reset_and_hazards.md R320). -/
theorem step_next {s t : State} (h : step s = .next t) :
    t = s ∨ exec (decode s.fetchBuffer) (fetch s) = .next t := by
  by_cases hr : s.pstate = .running
  · exact .inr (step_of_running hr ▸ h)
  · rw [step_of_not_running hr] at h
    cases h; exact .inl rfl

end Sys2Proof.Machine

/-! ## Two runs from states that agree

Two runs of one instruction, from states that agree on everything but a chosen part of SP, FLAGS and the
registers that only the host reaches: what is hidden from the instruction does not change what it does. -/

namespace Sys2Proof.Machine

/-- Two outcomes are both a next state, related by `P`, or refused for the same reason. -/
inductive Outcomes (P : State → State → Prop) : Result → Result → Prop where
  | next {t u : State} : P t u → Outcomes P (.next t) (.next u)
  | refused (a : Refusal) : Outcomes P (.refused a) (.refused a)

theorem Outcomes.imp {P Q : State → State → Prop} {x y : Result} (h : Outcomes P x y)
    (hPQ : ∀ t u, x = .next t → y = .next u → P t u → Q t u) : Outcomes Q x y := by
  cases h with
  | next hp => exact .next (hPQ _ _ rfl rfl hp)
  | refused a => exact .refused a

/-- What two states may differ in: SP, FLAGS, and R5 to R8, VER, RSV and LASTW, which only the host reaches. -/
structure Hidden where
  sp : Bool
  flags : Bool
  hostOnly : Bool

/-- The two states agree on everything but what is hidden. -/
structure AgreeBut (m : Hidden) (s t : State) : Prop where
  mem : t.mem = s.mem
  xlatt : t.xlatt = s.xlatt
  r1 : t.gpr.r1 = s.gpr.r1
  r2 : t.gpr.r2 = s.gpr.r2
  r3 : t.gpr.r3 = s.gpr.r3
  r4 : t.gpr.r4 = s.gpr.r4
  ip : t.ip = s.ip
  buf : t.buf = s.buf
  pstate : t.pstate = s.pstate
  sp : m.sp = false → t.sp = s.sp
  flags : m.flags = false → t.flags = s.flags
  gpr : m.hostOnly = false → t.gpr = s.gpr
  ver : m.hostOnly = false → t.ver = s.ver
  rsv : m.hostOnly = false → t.rsv = s.rsv
  lastw : m.hostOnly = false → t.lastw = s.lastw

/-- States that agree on everything but SP. -/
theorem agreeBut_sp_iff {s t : State} : AgreeBut ⟨true, false, false⟩ s t ↔ t = { s with sp := t.sp } := by
  constructor
  · intro h
    cases s; cases t
    simpa using ⟨h.mem, h.xlatt, h.gpr rfl, h.ip, h.flags rfl, h.ver rfl, h.rsv rfl, h.buf, h.lastw rfl, h.pstate⟩
  · intro h
    rw [h]
    constructor <;> simp

/-- States that agree on everything but FLAGS. -/
theorem agreeBut_flags_iff {s t : State} : AgreeBut ⟨false, true, false⟩ s t ↔ t = { s with flags := t.flags } := by
  constructor
  · intro h
    cases s; cases t
    simpa using ⟨h.mem, h.xlatt, h.gpr rfl, h.sp rfl, h.ip, h.ver rfl, h.rsv rfl, h.buf, h.lastw rfl, h.pstate⟩
  · intro h
    rw [h]
    constructor <;> simp

/-- States that agree on everything that instructions reach. -/
theorem agreeBut_hostOnly_iff {s t : State} : AgreeBut ⟨false, false, true⟩ s t ↔ SameToInstructions s t := by
  unfold SameToInstructions
  constructor
  · intro h
    have hg : t.gpr = ⟨s.gpr.r1, s.gpr.r2, s.gpr.r3, s.gpr.r4, t.gpr.r5, t.gpr.r6, t.gpr.r7, t.gpr.r8⟩ := by
      rw [← h.r1, ← h.r2, ← h.r3, ← h.r4]
    cases s; cases t
    simpa using ⟨h.mem, h.xlatt, hg, h.sp rfl, h.ip, h.flags rfl, h.buf, h.pstate⟩
  · intro h
    rw [h]
    constructor <;> simp

section
variable {m : Hidden} {s t : State}

/-! ### What operands and the fetch read -/

theorem AgreeBut.reg_eq (h : AgreeBut m s t) (r : MReg) : t.reg (gregOf r) = s.reg (gregOf r) := by
  cases r with
  | r1 => exact h.r1
  | r2 => exact h.r2
  | r3 => exact h.r3
  | r4 => exact h.r4

theorem AgreeBut.xlat_eq (h : AgreeBut m s t) (a : Word) : t.xlat a = s.xlat a := by
  simp only [State.xlat, h.xlatt]

theorem AgreeBut.memRead_eq (h : AgreeBut m s t) (a : Word) : t.memRead a = s.memRead a := by
  simp only [State.memRead, h.mem, h.xlat_eq]

theorem AgreeBut.dstLoc_eq (h : AgreeBut m s t) (d : Dst) : t.dstLoc d = s.dstLoc d := by
  cases d with
  | ind r => simp only [State.dstLoc, h.reg_eq]
  | mode0 | reg | abs => rfl

theorem AgreeBut.readLoc_eq (h : AgreeBut m s t) {l : Loc} (hl : l.Named) : t.readLoc l = s.readLoc l := by
  cases l with
  | reg r => obtain ⟨q, rfl⟩ := hl; exact h.reg_eq q
  | mem a => exact h.memRead_eq a

theorem AgreeBut.srcValue_eq (h : AgreeBut m s t) (src : Src) : t.srcValue src = s.srcValue src := by
  cases src with
  | imm v => rfl
  | reg r => exact h.reg_eq r
  | ind r => simp only [State.srcValue, h.reg_eq, h.memRead_eq]
  | abs a => exact h.memRead_eq a

theorem AgreeBut.popValue_eq (h : AgreeBut m s t) (hsp : m.sp = false) : t.popValue = s.popValue := by
  simp only [State.popValue, h.sp hsp, h.memRead_eq]

theorem AgreeBut.fetchBuffer_eq (h : AgreeBut m s t) : t.fetchBuffer = s.fetchBuffer := by
  simp only [State.fetchBuffer, State.fetchAddr, h.ip, h.memRead_eq]

/-! ### The same update of both states -/

theorem AgreeBut.setIp (h : AgreeBut m s t) (v : Word) : AgreeBut m (s.setIp v) (t.setIp v) := { h with ip := rfl }

theorem AgreeBut.setPstate (h : AgreeBut m s t) (p : PState) : AgreeBut m (s.setPstate p) (t.setPstate p) :=
  { h with pstate := rfl }

theorem AgreeBut.setSp (h : AgreeBut m s t) (v : Word) : AgreeBut m (s.setSp v) (t.setSp v) :=
  { h with sp := fun _ => rfl }

theorem AgreeBut.setLastw (h : AgreeBut m s t) (p : Word) : AgreeBut m (s.setLastw p) (t.setLastw p) :=
  { h with lastw := fun _ => rfl }

theorem AgreeBut.setFetched (h : AgreeBut m s t) (b : Buffer) (ip : Word) :
    AgreeBut m (s.setFetched b ip) (t.setFetched b ip) := { h with buf := rfl, ip := rfl }

/-- After the same write of FLAGS nothing of them is hidden. -/
theorem AgreeBut.setFlags (h : AgreeBut m s t) (v : Word) :
    AgreeBut { m with flags := false } (s.setFlags v) (t.setFlags v) := { h with flags := fun _ => rfl }

theorem AgreeBut.memWrite (h : AgreeBut m s t) (a v : Word) : AgreeBut m (s.memWrite a v) (t.memWrite a v) :=
  { h with mem := by simp only [State.memWrite_mem, h.mem, h.xlat_eq] }

theorem AgreeBut.setReg (h : AgreeBut m s t) (r : MReg) (v : Word) :
    AgreeBut m (s.setReg (gregOf r) v) (t.setReg (gregOf r) v) := by
  have hg : m.hostOnly = false → (t.setReg (gregOf r) v).gpr = (s.setReg (gregOf r) v).gpr := fun hm => by
    simp only [State.setReg_gpr, h.gpr hm]
  cases r with
  | r1 => exact { h with r1 := rfl, gpr := hg }
  | r2 => exact { h with r2 := rfl, gpr := hg }
  | r3 => exact { h with r3 := rfl, gpr := hg }
  | r4 => exact { h with r4 := rfl, gpr := hg }

theorem AgreeBut.writeLoc (h : AgreeBut m s t) {l : Loc} (hl : l.Named) (v : Word) :
    AgreeBut m (s.writeLoc l v) (t.writeLoc l v) := by
  cases l with
  | reg r => obtain ⟨q, rfl⟩ := hl; exact h.setReg q v
  | mem a =>
    have hw := (h.memWrite a v).setLastw (s.xlat a)
    simpa only [State.writeLoc, h.xlat_eq] using hw

theorem AgreeBut.push (h : AgreeBut m s t) (hsp : m.sp = false) (v : Word) : AgreeBut m (s.push v) (t.push v) := by
  have hb : t.spBelow = s.spBelow := by simp only [State.spBelow, h.sp hsp]
  simpa only [State.push, hb] using (h.setSp s.spBelow).memWrite s.spBelow v

theorem AgreeBut.popped (h : AgreeBut m s t) (hsp : m.sp = false) : AgreeBut m s.popped t.popped := by
  simpa only [State.popped, h.sp hsp] using h.setSp (Word.wrap (s.sp.val + 1))

theorem AgreeBut.popIp (h : AgreeBut m s t) (hsp : m.sp = false) : AgreeBut m s.popIp t.popIp := by
  simpa only [State.popIp, h.popValue_eq hsp] using (h.popped hsp).setIp s.popValue

theorem AgreeBut.fetch (h : AgreeBut m s t) : AgreeBut m (Machine.fetch s) (Machine.fetch t) := by
  simpa only [Machine.fetch, State.fetchAddr, h.fetchBuffer_eq, h.ip] using h.setFetched _ _

/-! ### The same instruction from both states -/

/-- A destination is refused in both states or has the same location in both. -/
theorem AgreeBut.withDst {P : State → State → Prop} (h : AgreeBut m s t) (d : Dst) {k k' : Loc → Result}
    (hk : ∀ l, l.Named → Outcomes P (k l) (k' l)) : Outcomes P (Machine.withDst d s k) (Machine.withDst d t k') := by
  unfold Machine.withDst
  rw [h.dstLoc_eq]
  cases hl : s.dstLoc d with
  | none => exact .refused _
  | some l => exact hk l (State.dstLoc_named hl)

/-- What stays hidden after an instruction: a writer of FLAGS writes the same to them in both states. -/
def Hidden.after (m : Hidden) (writes : Bool) : Hidden := if writes then { m with flags := false } else m

/-- No more is hidden after an instruction than before it. -/
theorem AgreeBut.of_after {w : Bool} (h : AgreeBut (m.after w) s t) : AgreeBut m s t := by
  cases w with
  | false => exact h
  | true => exact { h with flags := fun _ => h.flags rfl }

/-- Two runs of one shape, from states that agree on SP if it uses the stack and on FLAGS if it tests a condition. -/
theorem Shape.run_agree (sh : Shape) (h : AgreeBut m s t) (hsp : sh.usesStack = true → m.sp = false)
    (hfl : sh.readsFlags = true → m.flags = false) :
    Outcomes (AgreeBut (m.after sh.writesFlags)) (sh.run s) (sh.run t) := by
  cases sh with
  | assign f d src =>
    refine h.withDst d fun l hl => .next ?_
    rw [h.readLoc_eq hl, h.srcValue_eq]
    exact h.writeLoc hl _
  | divide d src =>
    refine h.withDst d fun l hl => ?_
    rw [h.readLoc_eq hl, h.srcValue_eq]
    split_ifs
    · exact .next (h.setPstate .error)
    · exact .next (h.writeLoc hl _)
  | compare f hf d src =>
    refine h.withDst d fun l hl => .next ?_
    rw [h.readLoc_eq hl, h.srcValue_eq]
    exact h.setFlags _
  | test f hf src =>
    refine .next ?_
    rw [h.srcValue_eq]
    exact h.setFlags _
  | jumpIf c src =>
    refine .next ?_
    rw [h.flags (hfl rfl), h.srcValue_eq]
    split_ifs
    · exact h.setIp _
    · exact h
  | pop d =>
    refine h.withDst d fun l hl => .next ?_
    rw [h.popValue_eq (hsp rfl)]
    exact (h.popped (hsp rfl)).writeLoc hl _
  | push src =>
    refine .next ?_
    rw [h.srcValue_eq]
    exact h.push (hsp rfl) _
  | call src =>
    refine .next ?_
    rw [h.srcValue_eq, h.ip]
    exact (h.push (hsp rfl) _).setIp _
  | ret => exact .next (h.popIp (hsp rfl))
  | retIf c =>
    refine .next ?_
    rw [h.flags (hfl rfl)]
    split_ifs
    · exact h.popIp (hsp rfl)
    · exact h
  | stop p => exact .next (h.setPstate p)
  | nothing => exact .next h

/-- Two runs of one instruction, from states that agree on SP if it uses the stack and on FLAGS if it reads them. -/
theorem exec_agree (i : Instr) (h : AgreeBut m s t) (hsp : usesStack i = true → m.sp = false)
    (hfl : readsFlags i = true → m.flags = false) :
    Outcomes (AgreeBut (m.after (writesFlags i))) (exec i s) (exec i t) := by
  rw [usesStack_eq] at hsp
  rw [readsFlags_eq] at hfl
  rw [writesFlags_eq, exec_eq_run, exec_eq_run]
  exact (shapeOf i).run_agree h hsp hfl

end

end Sys2Proof.Machine

/-! ## Clearing a region

What clearing a region of memory does, cell by cell and entry by entry (spec/70_reset_and_hazards.md R300,
D17), of any table, canonical or not. -/

namespace Sys2Proof.Machine

/-- The address `p` lies in the region of `len` cells from `start` on. -/
abbrev inRegion (start : Word) (len : Nat) (p : Word) : Prop := start.val ≤ p.val ∧ p.val < start.val + len

theorem Memory.clear_zero (m : Table) (start : Word) : Memory.clear m start 0 = m := rfl

/-- A region one cell longer inside memory has its last cell cleared too. -/
theorem Memory.clear_succ (m : Table) (start : Word) (len : Nat) (h : start.val + len < 1000) :
    Memory.clear m start (len + 1) = Memory.write (Memory.clear m start len) ⟨start.val + len, h⟩ 0 := by
  simp [Memory.clear, List.range_succ, h]

/-- A region is cut at the end of memory (log 15). -/
theorem Memory.clear_succ_past (m : Table) (start : Word) (len : Nat) (h : ¬ start.val + len < 1000) :
    Memory.clear m start (len + 1) = Memory.clear m start len := by
  simp [Memory.clear, List.range_succ, h]

/-- A cleared cell reads 0, and every other cell as before. -/
theorem Memory.read_clear (m : Table) (start : Word) (len : Nat) (p : Word) :
    Memory.read (Memory.clear m start len) p = if inRegion start len p then 0 else Memory.read m p := by
  induction len with
  | zero => rw [Memory.clear_zero, if_neg (by omega)]
  | succ len ih =>
    by_cases h : start.val + len < 1000
    · rw [Memory.clear_succ m start len h]
      by_cases hp : p = ⟨start.val + len, h⟩
      · subst hp
        rw [Memory.read_write_same, if_pos ⟨by simp, by simp⟩]
      · have hp' : p.val ≠ start.val + len := fun e => hp (Fin.ext e)
        rw [Memory.read_write_other _ _ _ _ hp, ih]
        exact if_congr (by omega) rfl rfl
    · rw [Memory.clear_succ_past m start len h, ih]
      exact if_congr (by omega) rfl rfl

/-- Writing 0, which an unlisted cell reads as, removes the cell's entry. -/
theorem Memory.write_zero (m : Table) (p : Word) : Memory.write m p 0 = Table.erase m p := if_pos rfl

/-- Every entry that clearing a region leaves lies outside the region. -/
theorem Memory.not_inRegion_of_mem_clear {m : Table} {start : Word} {len : Nat} {e : Word × Word}
    (he : e ∈ Memory.clear m start len) : ¬ inRegion start len e.1 := by
  unfold inRegion
  induction len with
  | zero => omega
  | succ len ih =>
    by_cases h : start.val + len < 1000
    · rw [Memory.clear_succ m start len h, Memory.write_zero, Table.erase, List.mem_filter, decide_eq_true_eq] at he
      obtain ⟨hm, hne⟩ := he
      have hne' : e.1.val ≠ start.val + len := fun h' => hne (Fin.ext h')
      have hin := ih hm
      omega
    · rw [Memory.clear_succ_past m start len h] at he
      have hin := ih he
      omega

/-- Clearing the whole memory leaves no entry. -/
theorem Memory.clear_all (m : Table) : Memory.clear m 0 1000 = [] := by
  refine List.eq_nil_iff_forall_not_mem.mpr fun e he => Memory.not_inRegion_of_mem_clear he ⟨Nat.zero_le _, ?_⟩
  simp

end Sys2Proof.Machine

/-! ## The statements about the state

The statements of spec/10_state.md: the invariant, who reads and writes FLAGS, SP and the registers of the host, and
reset. -/

namespace Sys2Proof.Machine

/-! ### The invariant -/

/-- A fetch writes neither memory nor the translator. -/
theorem fetch_inv {s : State} (h : s.Inv) : (fetch s).Inv := h

/-- Settles O47. -/
theorem resetStateMeetsTheInvariant : Obligations.ResetStateMeetsTheInvariant := ⟨Memory.reset_wf, rfl⟩

/-- Settles O48: a step changes memory and the translator by the effect of one instruction only. -/
theorem everyStepKeepsTheInvariant : Obligations.EveryStepKeepsTheInvariant := by
  intro s t hs h
  rcases step_next h with rfl | hx
  · exact hs
  · exact (exec_effect hx).inv (fetch_inv hs)

theorem execute_inv {s t : State} (hs : s.Inv) (h : execute s = .next t) : t.Inv := by
  rcases execute_next h with rfl | hx
  · exact hs
  · exact (exec_effect hx).inv hs

theorem hostReset_inv {s : State} (start : Word) (len : Nat) (hs : s.Inv) : (hostReset start len s).Inv :=
  ⟨Memory.clear_wf s.mem start len hs.1, hs.2⟩

theorem hostWriteMem_inv {s t : State} {a : Word} {n : Nat} (hs : s.Inv) (h : hostWriteMem a n s = .next t) :
    t.Inv := by
  unfold hostWriteMem at h
  split_ifs at h
  cases h
  exact ⟨Memory.write_wf s.mem a _ hs.1, hs.2⟩

/-- No register slot is a part of memory or of the translator. -/
theorem setSlot_inv {s : State} (slot : Slot) (v : Word) (hs : s.Inv) : (setSlot slot v s).Inv := by
  cases slot <;> exact hs

theorem hostWriteSlot_inv {s t : State} {slot : Slot} {n : Nat} (hs : s.Inv)
    (h : hostWriteSlot slot n s = .next t) : t.Inv := by
  unfold hostWriteSlot at h
  split_ifs at h
  cases h
  exact setSlot_inv slot _ hs

theorem hostWriteIndex_inv {s t : State} {index n : Nat} (hs : s.Inv) (h : hostWriteIndex index n s = .next t) :
    t.Inv := by
  unfold hostWriteIndex at h
  split at h
  · cases h
  · exact hostWriteSlot_inv hs h

theorem runRequest_inv {s : State} (hs : s.Inv) : (runRequest s).Inv := by
  unfold runRequest
  split <;> exact hs

/-- Settles O49, action by action. -/
theorem everyHostActionKeepsTheInvariant : Obligations.EveryHostActionKeepsTheInvariant := by
  intro a s t hs h
  cases a with
  | reset start len => cases h; exact hostReset_inv start len hs
  | fetch => cases h; exact fetch_inv hs
  | execute => exact execute_inv hs h
  | writeMem a n => exact hostWriteMem_inv hs h
  | editMem a text => exact hostWriteMem_inv hs h
  | writeSlot slot n => exact hostWriteSlot_inv hs h
  | editSlot slot text => exact hostWriteSlot_inv hs h
  | writeIndex index n => exact hostWriteIndex_inv hs h
  | run => cases h; exact runRequest_inv hs

/-! ### FLAGS -/

/-- Settles O43. -/
theorem onlyComparesAndBitTestsWriteFlags : Obligations.OnlyComparesAndBitTestsWriteFlags := by
  intro i s t h
  have he := exec_effect h
  refine ⟨fun hw => ?_, fun hw => ?_⟩
  · rw [hw] at he
    exact he.flags_eq
  · rw [hw] at he
    exact he.flags_oneHot

/-- Settles O50: the instruction of a step either keeps FLAGS or leaves them one-hot. -/
theorem everyStepKeepsFlagsOneHot : Obligations.EveryStepKeepsFlagsOneHot := by
  intro s t hs h
  rcases step_next h with rfl | hx
  · exact hs
  · obtain ⟨hkeep, hset⟩ := onlyComparesAndBitTestsWriteFlags _ _ _ hx
    cases hw : writesFlags (decode s.fetchBuffer) with
    | false => rw [hkeep hw]; exact hs
    | true => exact hset hw

/-- Two runs of an instruction that does not read FLAGS, with two words in FLAGS. -/
theorem exec_agree_of_flags (i : Instr) (s : State) (f : Word) (hr : readsFlags i = false) :
    Outcomes (fun t u => u = { t with flags := u.flags } ∧ (writesFlags i = true → u.flags = t.flags) ∧
      (writesFlags i = false → u.flags = f)) (exec i s) (exec i { s with flags := f }) := by
  have hs : AgreeBut ⟨false, true, false⟩ s { s with flags := f } := agreeBut_flags_iff.mpr rfl
  have hx := exec_agree i hs (fun _ => rfl) (fun h => absurd h (by simp [hr]))
  refine hx.imp fun t u _ hu h => ⟨agreeBut_flags_iff.mp h.of_after, fun hw => ?_, fun hw => ?_⟩
  · rw [hw] at h
    exact h.flags rfl
  · have heu := hw ▸ exec_effect hu
    exact heu.flags_eq

theorem State.setFlags_srcValue (s : State) (f : Word) (src : Src) : (s.setFlags f).srcValue src = s.srcValue src := by
  cases src <;> rfl

/-- Jcc looks at FLAGS through its condition test alone. -/
theorem execJcc_setFlags (c : Digit) (src : Src) (s : State) (f : Word) (hc : condHolds s.flags c = condHolds f c) :
    ∃ t, execJcc c src s = .next t ∧ execJcc c src (s.setFlags f) = .next (t.setFlags f) := by
  cases h : condHolds f c with
  | true =>
    refine ⟨_, execJcc_taken (hc.trans h), (execJcc_taken h).trans ?_⟩
    rw [State.setFlags_srcValue]
    rfl
  | false => exact ⟨s, execJcc_not_taken (hc.trans h), execJcc_not_taken h⟩

/-- RETcc looks at FLAGS through its condition test alone. -/
theorem execRetcc_setFlags (c : Digit) (s : State) (f : Word) (hc : condHolds s.flags c = condHolds f c) :
    ∃ t, execRetcc c s = .next t ∧ execRetcc c (s.setFlags f) = .next (t.setFlags f) := by
  cases h : condHolds f c with
  | true => exact ⟨s.popIp, execRetcc_taken (hc.trans h), execRetcc_taken h⟩
  | false => exact ⟨s, execRetcc_not_taken (hc.trans h), execRetcc_not_taken h⟩

/-- Settles O44. -/
theorem onlyConditionalsReadFlags : Obligations.OnlyConditionalsReadFlags := by
  refine ⟨fun i s f hr => ?_, fun c s f hc =>
    ⟨fun src => execJcc_setFlags c src s f hc, execRetcc_setFlags c s f hc⟩⟩
  have h := exec_agree_of_flags i s f hr
  generalize exec i s = x, exec i { s with flags := f } = y at h ⊢
  cases h with
  | next h => exact h
  | refused a => rfl

/-! ### SP -/

/-- Two runs of an instruction that does not use the stack, with two words in SP. -/
theorem exec_agree_of_sp (i : Instr) (s : State) (v : Word) (hi : usesStack i = false) :
    Outcomes (fun t u => t.sp = s.sp ∧ u = { t with sp := v }) (exec i s) (exec i { s with sp := v }) := by
  have hs : AgreeBut ⟨true, false, false⟩ s { s with sp := v } := agreeBut_sp_iff.mpr rfl
  have hx := exec_agree i hs (fun h => absurd h (by simp [hi])) (fun _ => rfl)
  refine hx.imp fun t u ht hu h => ?_
  have het := hi ▸ exec_effect ht
  have heu := hi ▸ exec_effect hu
  have hsp : u.sp = v := heu.sp_eq
  have htu : u = { t with sp := u.sp } := agreeBut_sp_iff.mp h.of_after
  exact ⟨het.sp_eq, hsp ▸ htu⟩

/-- Settles O45. -/
theorem onlyStackInstructionsUseSp : Obligations.OnlyStackInstructionsUseSp := by
  intro i s v hi
  have h := exec_agree_of_sp i s v hi
  generalize exec i s = x, exec i { s with sp := v } = y at h ⊢
  cases h with
  | next h => exact h
  | refused a => rfl

/-! ### The registers that only the host reaches -/

/-- Two steps from states that agree on all that instructions reach. -/
theorem step_agree {s s' : State} (h : AgreeBut ⟨false, false, true⟩ s s') :
    Outcomes (fun t t' => AgreeBut ⟨false, false, true⟩ t t' ∧ KeepsHostOnly s t) (step s) (step s') := by
  by_cases hr : s.pstate = .running
  · rw [step_of_running hr, step_of_running (h.pstate.trans hr), h.fetchBuffer_eq]
    have hx := exec_agree (decode s.fetchBuffer) h.fetch (fun _ => rfl) (fun _ => rfl)
    exact hx.imp fun t u ht _ ha => ⟨ha.of_after, (exec_effect ht).keepsHostOnly⟩
  · rw [step_of_not_running hr, step_of_not_running (h.pstate ▸ hr)]
    exact .next ⟨h, KeepsHostOnly.refl s⟩

/-- Settles O46. -/
theorem stepsDoNotReachHostOnlyRegisters : Obligations.StepsDoNotReachHostOnlyRegisters := by
  intro s s' hs
  have h := step_agree (agreeBut_hostOnly_iff.mpr hs)
  generalize step s = x, step s' = y at h ⊢
  cases h with
  | next h => exact ⟨agreeBut_hostOnly_iff.mp h.1, h.2⟩
  | refused a => rfl

/-! ### Reset -/

/-- Settles O52: the fields are the reset's own, and the memory is the cleared one. -/
theorem resetClearsItsRegionOnly : Obligations.ResetClearsItsRegionOnly := by
  intro start len s
  exact ⟨rfl, rfl, rfl, rfl, rfl, rfl, rfl, rfl, rfl, rfl, Memory.read_clear s.mem start len⟩

/-- Settles O53: no entry is left of whatever table memory was before. -/
theorem resetStateIsAResetOfTheWholeMemory : Obligations.ResetStateIsAResetOfTheWholeMemory := by
  intro m
  simp only [hostReset, State.construct, Memory.clear_all]
  rfl

end Sys2Proof.Machine

/-! ## What is stored where

Which cell an instruction stores to, over its shape, and the cell that every step leaves alone (spec/20_memory.md R54,
R56). -/

namespace Sys2Proof.Machine

/-! ### A write through a location, cell by cell -/

/-- The cell of a location, by physical address, if it is in memory. -/
def State.locCell (s : State) : Loc → Option Word
  | .reg _ => none
  | .mem a => some (s.xlat a)

@[simp] theorem State.popped_locCell (s : State) (l : Loc) : s.popped.locCell l = s.locCell l := by cases l <;> rfl

theorem dstCell_of_loc {s : State} {d : Dst} {l : Loc} (h : s.dstLoc d = some l) : dstCell d s = s.locCell l := by
  unfold dstCell
  rw [h]
  cases l <;> rfl

/-- A write through a location leaves every cell but the location's alone. -/
theorem State.read_writeLoc_other {s : State} {l : Loc} {p : Word} (v : Word) (h : s.locCell l ≠ some p) :
    Memory.read (s.writeLoc l v).mem p = Memory.read s.mem p := by
  cases l with
  | reg r => rfl
  | mem a => exact Memory.read_write_other _ _ _ _ fun hp => h (congrArg some hp.symm)

/-- A push leaves every cell but the one below SP alone. -/
theorem State.read_push_other {s : State} {p : Word} (v : Word) (h : some (s.xlat s.spBelow) ≠ some p) :
    Memory.read (s.push v).mem p = Memory.read s.mem p :=
  Memory.read_write_other _ _ _ _ fun hp => h (congrArg some hp.symm)

/-! ### The cell an instruction stores to -/

/-- The cell that an instruction of a shape stores to. -/
def Shape.storedCell (s : State) : Shape → Option Word
  | .assign _ d _ | .pop d => dstCell d s
  | .divide d src => if s.srcValue src = 0 then none else dstCell d s
  | .push _ | .call _ => some (s.xlat s.spBelow)
  | _ => none

theorem storedCell_eq (i : Instr) (s : State) : storedCell i s = (shapeOf i).storedCell s := by
  cases i <;> rfl

/-- A run of a shape leaves every cell but the one it stores to alone. -/
theorem Shape.read_of_run {s t : State} {p : Word} (sh : Shape) (h : sh.run s = .next t)
    (hp : sh.storedCell s ≠ some p) : Memory.read t.mem p = Memory.read s.mem p := by
  cases sh with
  | assign f d src =>
    obtain ⟨l, hl, rfl⟩ := combineDst_next f d src s t h
    exact State.read_writeLoc_other _ (dstCell_of_loc hl ▸ hp)
  | divide d src =>
    obtain ⟨l, hl, hk⟩ := withDst_next d s t _ h
    split_ifs at hk with h0
    · cases hk; rfl
    · cases hk
      have hne : s.srcValue src ≠ 0 := fun e => h0 (congrArg Fin.val e)
      have hd : dstCell d s ≠ some p := by simpa only [Shape.storedCell, if_neg hne] using hp
      exact State.read_writeLoc_other _ (dstCell_of_loc hl ▸ hd)
  | compare f hf d src =>
    obtain ⟨l, -, rfl⟩ := flagsFromDst_next f d src s t h
    rfl
  | pop d =>
    obtain ⟨l, hl, hk⟩ := withDst_next d s t _ h
    cases hk
    have hl' : s.popped.locCell l ≠ some p := by
      rw [State.popped_locCell, ← dstCell_of_loc hl]
      exact hp
    exact State.read_writeLoc_other s.popValue hl'
  | push src => cases h; exact State.read_push_other _ hp
  | call src => cases h; exact State.read_push_other _ hp
  | jumpIf c src =>
    cases h
    split_ifs <;> rfl
  | retIf c =>
    cases h
    split_ifs <;> rfl
  | test | ret | stop | nothing => cases h; rfl

/-- No instruction writes the translator. -/
theorem Effect.xlatt_eq {s t : State} {k w : Bool} (h : Effect s k w t) : t.xlatt = s.xlatt := by
  cases h with
  | store l v _ => exact State.writeLoc_xlatt s l v
  | pop l v _ => exact State.writeLoc_xlatt s.popped l v
  | setFlags | jump | stop | push | call | ret | stay => rfl

/-- Settles O57: an instruction does what its shape does, and its cell is its shape's. -/
theorem instructionsStoreOnlyToTheirCell : Obligations.InstructionsStoreOnlyToTheirCell := by
  intro i s t h
  refine ⟨(exec_effect h).xlatt_eq, fun p hp => ?_⟩
  rw [storedCell_eq] at hp
  rw [exec_eq_run] at h
  exact (shapeOf i).read_of_run h hp

/-! ### Stores and later fetches -/

/-- A step whose instruction does not store to a cell leaves the cell alone. -/
theorem read_of_step {s t : State} {p : Word} (h : step s = .next t)
    (hp : s.pstate = .running → storedCell (decode s.fetchBuffer) (fetch s) ≠ some p) :
    Memory.read t.mem p = Memory.read s.mem p := by
  by_cases hr : s.pstate = .running
  · rw [step_of_running hr] at h
    obtain ⟨-, hkeep⟩ := instructionsStoreOnlyToTheirCell _ _ _ h
    exact hkeep p (hp hr)
  · rw [step_of_not_running hr] at h
    cases h; rfl

/-- Steps that do not store to a cell leave it alone. -/
theorem RunsKeeping.read_eq {p : Word} {n : Nat} {s t : State} (h : RunsKeeping p n s t) :
    Memory.read t.mem p = Memory.read s.mem p := by
  induction n generalizing s with
  | zero => cases h; rfl
  | succ n ih =>
    obtain ⟨u, hstep, hp, hrest⟩ := h
    exact (ih hrest).trans (read_of_step hstep hp)

/-- Word `k` of the buffer that a fetch fills (spec/30_encoding.md R73). -/
theorem State.fetchBuffer_word (s : State) (k : Digit) : s.fetchBuffer.word k = s.memRead (s.fetchAddr k.val) :=
  match k with
  | 0 | 1 | 2 | 3 | 4 | 5 | 6 | 7 | 8 | 9 => rfl

/-- A fetch after steps that do not store to a cell reads what the cell held before them. -/
theorem RunsKeeping.fetch_word {p : Word} {n : Nat} {u t : State} {k : Digit} (h : RunsKeeping p n u t)
    (hk : t.xlat (t.fetchAddr k.val) = p) : (fetch t).buf.word k = Memory.read u.mem p := by
  rw [fetch_buf, State.fetchBuffer_word, State.memRead, hk, h.read_eq]

/-- A host write that is not refused is a write of a word to the cell. -/
theorem hostWriteMem_next {a : Word} {w : Nat} {s u : State} (h : hostWriteMem a w s = .next u) :
    w < 1000 ∧ u = { s with mem := Memory.write s.mem a (Word.wrap w) } := by
  unfold hostWriteMem at h
  split_ifs at h with hw
  cases h; exact ⟨hw, rfl⟩

/-- Settles O11: the cell keeps its word through the steps, and after each kind of write that word is the written one. -/
theorem laterFetchesSeeStores : Obligations.LaterFetchesSeeStores := by
  intro n k t
  refine ⟨fun u p h hk => h.fetch_word hk, fun s a v h hk => ?_, fun s u a w hw h hk => ?_⟩
  · exact (h.fetch_word hk).trans (Memory.read_write_same s.mem (s.xlat a) v)
  · obtain ⟨hlt, rfl⟩ := hostWriteMem_next hw
    rw [h.fetch_word hk, Memory.read_write_same]
    exact Nat.mod_eq_of_lt hlt

/-! ### MemRead and MemWrite -/

/-- Settles O51: a memory write is a write of the one cell. -/
theorem memoryWritesAreReadBack : Obligations.MemoryWritesAreReadBack := by
  intro s a v
  exact ⟨rfl, Memory.read_write_same _ _ _, fun p hp => Memory.read_write_other _ _ _ _ hp, rfl⟩

/-! ### The text window -/

/-- The window ends above cell 701 and at or below 1000 (spec/20_memory.md R58). -/
theorem textWindow_bounds :
    Config.textBase.val ≤ 700 ∧ 702 ≤ Config.textBase.val + textLen ∧ Config.textBase.val + textLen ≤ 1000 := by
  unfold textLen
  omega

/-- The window's entry for an address in it is the cell at that address. -/
theorem textWindow_getElem? (s : State) (a : Word) (hbase : Config.textBase.val ≤ a.val)
    (hend : a.val < Config.textBase.val + textLen) :
    (textWindow s)[a.val - Config.textBase.val]? = some (hostReadMem s a) := by
  have hk : a.val - Config.textBase.val < textLen := by omega
  have ha : Word.wrap (Config.textBase.val + (a.val - Config.textBase.val)) = a := by
    apply Fin.ext
    simp only [Word.wrap]
    omega
  simp [textWindow, hk, ha]

theorem glyph_of_control {w : Word} (h : w.val ≤ 4) : glyph w = none := if_pos h

/-- Settles O56: the addresses 700 and 701 lie in the window. -/
theorem textWindowShowsItsCells : Obligations.TextWindowShowsItsCells := by
  obtain ⟨hbase, hend, hmem⟩ := textWindow_bounds
  refine ⟨hmem, fun s => ⟨?_, ?_⟩, rfl, rfl, fun w hw => glyph_of_control hw⟩
  · exact textWindow_getElem? s 700 hbase (by omega)
  · exact textWindow_getElem? s 701 (by omega) (by omega)

end Sys2Proof.Machine

/-! ## Encoding, decoding and the decode length

The round trips between instructions and words under every OPMAP (spec/30_encoding.md R71, R91 to R113), proved along
the decoder's tables, and the decode length (R80 to R86). -/

namespace Sys2Proof

/-! ### Decoding what the encoder writes -/

/-- Entries 5 to 9 of the bit-test sub-table are the reserved ones (spec/30_encoding.md R100). -/
theorem decode890Sub_reserved {m : OpMap} {b : Buffer} {t : Digit} (ht : m.sub890 b.w1.tens = t) (h5 : 5 ≤ t.val) :
    decode890Sub m b = .reserved890T t b.w1.units := by
  unfold decode890Sub
  rw [ht]
  match t, h5 with
  | 5, _ | 6, _ | 7, _ | 8, _ | 9, _ => rfl

/-- An encoded instruction selects its own row in each table, and its operands stand at the resolver's cursor. -/
theorem decodeWith_encodeWith (m : OpMap) (hm : m.wf) (i : Instr) (hi : i.wellFormed = true) (rest : List Word) :
    decodeWith m (Buffer.ofWords (encodeWith m i ++ rest)) = i := by
  have h990 (ws : List Word) := decodeWith_990 m hm (Buffer.ofWords (990 :: ws)) rfl
  have h890 (ws : List Word) := decodeWith_890 m hm (Buffer.ofWords (890 :: ws)) rfl
  obtain ⟨h9, -, h999, h89, -⟩ := hm
  cases i with
  | add d s | sub d s | mul d s | div d s | mov d s | cmp d s =>
    simp [encodeWith, encodeTwo, decodeWith, takeTwo_encoded]
  | jcc c s => simp [encodeWith, decodeWith, takeSrc_encoded]
  | group0 t u => simp [encodeWith, decodeWith]
  | inc x | dec x | pop x => simp [encodeWith, encodeDst, decodeWith, decodeGroup9, takeDst_encoded]
  | push x | call x => simp [encodeWith, encodeSrc, decodeWith, decodeGroup9, takeSrc_encoded]
  | inp x | out x | reservedG9T7 x | reservedG9T8 x => simp [encodeWith, decodeWith, decodeGroup9]
  | pushz | ret | nop | reserved996 | reserved997 | reserved998 =>
    simp [encodeWith, decodeWith, decodeGroup9, decodeGroup99, h9]
  | lib x => simp [encodeWith, OpMap.libCode, decodeWith, decodeGroup9, decodeGroup99, h9]
  | sys x => simp [encodeWith, OpMap.sysCode, decodeWith, decodeGroup9, decodeGroup99, h9]
  | hlt => simp [encodeWith, word999, decodeWith, decodeGroup9, decodeGroup99, h9, h999]
  | neg x | movz x => simp [encodeWith, encodeDst, decodeWith, decodeGroup8, takeDst_encoded]
  | cmpz x => simp [encodeWith, encodeSrc, decodeWith, decodeGroup8, takeSrc_encoded]
  | lea x | si x | so x | retcc x | reservedG8T7 x | reservedG8T8 x => simp [encodeWith, decodeWith, decodeGroup8]
  | reservedG89 u =>
    have hu : u ≠ 0 := by rintro rfl; simp [Instr.wellFormed] at hi
    simp [encodeWith, decodeWith, decodeGroup8, h89, hu]
  | or d s | xor d s | and d s | clr d s | shl d s | shr d s =>
    simp [encodeWith, encodeTwo, h990, decode990, takeTwo_encoded_prefixed]
  | setcc t u | reserved990H0 t u | reserved990H9 t u => simp [encodeWith, h990, decode990]
  | not x => simp [encodeWith, encodeDst, h990, decode990, takeDst_encoded_prefixed]
  | reserved990T t x =>
    have ht : t ≠ 0 := by rintro rfl; simp [Instr.wellFormed] at hi
    simp [encodeWith, h990, decode990, ht]
  | tstm d s => simp [encodeWith, encodeTwo, h890, decode890, takeTwo_encoded_prefixed]
  | scan t u | len t u | cnt t u | rot t u | reserved890H0 t u | reserved890H7 t u | reserved890H8 t u
    | reserved890H9 t u => simp [encodeWith, h890, decode890]
  | tst x => simp [encodeWith, encodeSrc, h890, decode890, decode890Sub, takeSrc_encoded_prefixed]
  | ctb x | ctd x => simp [encodeWith, encodeDst, h890, decode890, decode890Sub, takeDst_encoded_prefixed]
  | rotx x | clrx x => simp [encodeWith, h890, decode890, decode890Sub]
  | reserved890T t x =>
    have ht : 5 ≤ t.val := by simpa [Instr.wellFormed] using hi
    simp [encodeWith, h890, decode890, decode890Sub_reserved _ ht]

/-- Settles O1: the machine's OPMAP is one that keeps the confirmed digits. -/
theorem decodeOfEncodeGivesTheInstruction : Obligations.DecodeOfEncodeGivesTheInstruction :=
  ⟨fun m i rest hm hi => decodeWith_encodeWith m hm i hi rest,
    fun i rest hi => decodeWith_encodeWith Config.opmap Config.opmap_wf i hi rest⟩

/-! ### Encoding what the decoder reads -/

@[simp] theorem digit_takeDst (b : Buffer) (cur d : Digit) : (takeDst b cur d).digit = d :=
  match d with
  | 0 | 1 | 2 | 3 | 4 | 5 | 6 | 7 | 8 | 9 => rfl

@[simp] theorem digit_takeSrc (b : Buffer) (cur d : Digit) : (takeSrc b cur d).digit = d :=
  match d with
  | 0 | 1 | 2 | 3 | 4 | 5 | 6 | 7 | 8 | 9 => rfl

/-- Only mode 9 gives a destination an extension word, the one at the cursor (spec/30_encoding.md R112). -/
theorem ext_takeDst (b : Buffer) (cur d : Digit) : (takeDst b cur d).ext = if d = 9 then [b.word cur] else [] :=
  match d with
  | 0 | 1 | 2 | 3 | 4 | 5 | 6 | 7 | 8 | 9 => rfl

/-- Modes 0 and 9 give a source an extension word, the one at the cursor (spec/30_encoding.md R112). -/
theorem ext_takeSrc (b : Buffer) (cur d : Digit) :
    (takeSrc b cur d).ext = if d = 0 ∨ d = 9 then [b.word cur] else [] :=
  match d with
  | 0 | 1 | 2 | 3 | 4 | 5 | 6 | 7 | 8 | 9 => rfl

/-- The buffer's words from the cursor on. -/
theorem Buffer.drop_words (b : Buffer) (cur : Digit) :
    b.words.drop cur.val = b.word cur :: b.words.drop (cur.val + 1) :=
  match cur with
  | 0 | 1 | 2 | 3 | 4 | 5 | 6 | 7 | 8 | 9 => rfl

theorem ext_takeSrc_prefix (b : Buffer) (cur d : Digit) : (takeSrc b cur d).ext <+: b.words.drop cur.val := by
  rw [ext_takeSrc, Buffer.drop_words]
  split_ifs <;> simp

theorem ext_takeDst_prefix (b : Buffer) (cur d : Digit) : (takeDst b cur d).ext <+: b.words.drop cur.val := by
  rw [ext_takeDst, Buffer.drop_words]
  split_ifs <;> simp

/-- The extension words of a destination and then a source are the first words from the cursor on. -/
theorem ext_takeTwo_prefix (b : Buffer) (cur d s : Digit) (hcur : cur.val < 9) :
    (takeDst b cur d).ext ++ (takeSrc b (cursorAfterDst cur d) s).ext <+: b.words.drop cur.val := by
  rw [ext_takeDst, cursorAfterDst]
  split_ifs with hd
  · have hnext : (cur + 1).val = cur.val + 1 := by simp only [Fin.val_add]; omega
    rw [Buffer.drop_words, ← hnext]
    simpa using ext_takeSrc_prefix b (cur + 1) s
  · exact ext_takeSrc_prefix b cur s

section
variable {b : Buffer} {w : Word} {h t : Digit}

theorem Word.ofDigits_units (hh : w.hundreds = h) (ht : w.tens = t) : Word.ofDigits h t w.units = w := by
  rw [← hh, ← ht, Word.ofDigits_digits]

theorem encodeTwo_takeTwo_prefix (cur : Digit) (hcur : cur.val < 9) (hh : w.hundreds = h) :
    encodeTwo h (takeDst b cur w.tens) (takeSrc b (cursorAfterDst cur w.tens) w.units) <+:
      w :: b.words.drop cur.val := by
  rw [encodeTwo, digit_takeDst, digit_takeSrc, Word.ofDigits_units hh rfl, List.cons_prefix_cons]
  exact ⟨rfl, ext_takeTwo_prefix b cur w.tens w.units hcur⟩

theorem encodeDst_takeDst_prefix (cur : Digit) (hh : w.hundreds = h) (ht : w.tens = t) :
    encodeDst h t (takeDst b cur w.units) <+: w :: b.words.drop cur.val := by
  rw [encodeDst, digit_takeDst, Word.ofDigits_units hh ht, List.cons_prefix_cons]
  exact ⟨rfl, ext_takeDst_prefix b cur w.units⟩

theorem encodeSrc_takeSrc_prefix (cur : Digit) (hh : w.hundreds = h) (ht : w.tens = t) :
    encodeSrc h t (takeSrc b cur w.units) <+: w :: b.words.drop cur.val := by
  rw [encodeSrc, digit_takeSrc, Word.ofDigits_units hh ht, List.cons_prefix_cons]
  exact ⟨rfl, ext_takeSrc_prefix b cur w.units⟩

end

/-- `i` is well formed and its words under the OPMAP are the first words of the buffer. -/
def Encodes (m : OpMap) (b : Buffer) (i : Instr) : Prop := i.wellFormed = true ∧ encodeWith m i <+: b.words

section
variable {m : OpMap} {b : Buffer}

theorem ofDigits_prefix {w : Word} {h t : Digit} (ws : List Word) (hh : w.hundreds = h) (ht : w.tens = t) :
    [Word.ofDigits h t w.units] <+: w :: ws := by
  rw [Word.ofDigits_units hh ht, List.cons_prefix_cons]
  exact ⟨rfl, List.nil_prefix⟩

/-- A leading word and a payload's words are the first words of the buffer. -/
theorem cons_prefix_words {p : Word} {ws : List Word} (hp : b.w0 = p) (h : ws <+: b.w1 :: b.words.drop 2) :
    p :: ws <+: b.words :=
  List.cons_prefix_cons.2 ⟨hp.symm, h⟩

theorem decode990_encodes (hp : b.w0 = 990) : Encodes m b (decode990 m b) := by
  unfold decode990
  generalize he : m.payload990 b.w1.hundreds = e
  rw [← Equiv.eq_symm_apply] at he
  match e, he with
  | 0, hh | 7, hh | 9, hh => exact ⟨rfl, cons_prefix_words hp (ofDigits_prefix _ hh rfl)⟩
  | 1, hh | 2, hh | 3, hh | 4, hh | 5, hh | 6, hh =>
    exact ⟨rfl, cons_prefix_words hp (encodeTwo_takeTwo_prefix 2 (by decide) hh)⟩
  | 8, hh =>
    dsimp only
    split_ifs with ht
    · exact ⟨rfl, cons_prefix_words hp (encodeDst_takeDst_prefix 2 hh ((Equiv.eq_symm_apply _).2 ht))⟩
    · refine ⟨decide_eq_true (Fin.pos_iff_ne_zero.2 ht), ?_⟩
      exact cons_prefix_words hp (ofDigits_prefix _ hh (Equiv.symm_apply_apply _ _).symm)

theorem decode890Sub_encodes (hp : b.w0 = 890) (hh : b.w1.hundreds = m.payload890.symm 6) :
    Encodes m b (decode890Sub m b) := by
  unfold decode890Sub
  generalize he : m.sub890 b.w1.tens = e
  rw [← Equiv.eq_symm_apply] at he
  match e, he with
  | 0, ht => exact ⟨rfl, cons_prefix_words hp (encodeSrc_takeSrc_prefix 2 hh ht)⟩
  | 1, ht | 2, ht => exact ⟨rfl, cons_prefix_words hp (encodeDst_takeDst_prefix 2 hh ht)⟩
  | 3, ht | 4, ht | 5, ht | 6, ht | 7, ht | 8, ht | 9, ht =>
    exact ⟨rfl, cons_prefix_words hp (ofDigits_prefix _ hh ht)⟩

theorem decode890_encodes (hp : b.w0 = 890) : Encodes m b (decode890 m b) := by
  unfold decode890
  generalize he : m.payload890 b.w1.hundreds = e
  rw [← Equiv.eq_symm_apply] at he
  match e, he with
  | 0, hh | 2, hh | 3, hh | 4, hh | 5, hh | 7, hh | 8, hh | 9, hh =>
    exact ⟨rfl, cons_prefix_words hp (ofDigits_prefix _ hh rfl)⟩
  | 1, hh => exact ⟨rfl, cons_prefix_words hp (encodeTwo_takeTwo_prefix 2 (by decide) hh)⟩
  | 6, hh => exact decode890Sub_encodes hp hh

theorem decodeGroup99_encodes (hm : m.wf) (hh : b.w0.hundreds = 9) (ht : b.w0.tens = 9) :
    Encodes m b (decodeGroup99 m b) := by
  obtain ⟨-, h990, h999, -, -⟩ := hm
  have hw : Word.ofDigits 9 9 b.w0.units = b.w0 := Word.ofDigits_units hh ht
  unfold decodeGroup99
  generalize he : m.group99 b.w0.units = e
  rw [← Equiv.eq_symm_apply] at he
  rw [he] at hw
  match e, hw with
  | 0, hw =>
    rw [(Equiv.symm_apply_eq _).2 h990.symm, ← word990] at hw
    exact decode990_encodes hw.symm
  | 1, hw | 2, hw | 3, hw | 6, hw | 7, hw | 8, hw =>
    exact ⟨rfl, List.cons_prefix_cons.2 ⟨hw, List.nil_prefix⟩⟩
  | 4, hw | 5, hw =>
    exact ⟨rfl, cons_prefix_words hw.symm (List.cons_prefix_cons.2 ⟨rfl, List.nil_prefix⟩)⟩
  | 9, hw =>
    rw [(Equiv.symm_apply_eq _).2 h999.symm, ← word999] at hw
    exact ⟨rfl, List.cons_prefix_cons.2 ⟨hw, List.nil_prefix⟩⟩

theorem decodeGroup9_encodes (hm : m.wf) (hh : b.w0.hundreds = 9) : Encodes m b (decodeGroup9 m b) := by
  unfold decodeGroup9
  generalize he : m.group9 b.w0.tens = e
  rw [← Equiv.eq_symm_apply] at he
  match e, he with
  | 0, ht | 1, ht | 4, ht => exact ⟨rfl, encodeDst_takeDst_prefix 1 hh ht⟩
  | 5, ht | 6, ht => exact ⟨rfl, encodeSrc_takeSrc_prefix 1 hh ht⟩
  | 2, ht | 3, ht | 7, ht | 8, ht => exact ⟨rfl, ofDigits_prefix _ hh ht⟩
  | 9, ht => exact decodeGroup99_encodes hm hh (ht.trans ((Equiv.symm_apply_eq _).2 hm.1.symm))

theorem decodeGroup8_encodes (hm : m.wf) (hh : b.w0.hundreds = 8) : Encodes m b (decodeGroup8 m b) := by
  obtain ⟨-, -, -, h89, -⟩ := hm
  unfold decodeGroup8
  generalize he : m.group8 b.w0.tens = e
  rw [← Equiv.eq_symm_apply] at he
  match e, he with
  | 1, ht | 4, ht => exact ⟨rfl, encodeDst_takeDst_prefix 1 hh ht⟩
  | 5, ht => exact ⟨rfl, encodeSrc_takeSrc_prefix 1 hh ht⟩
  | 0, ht | 2, ht | 3, ht | 6, ht | 7, ht | 8, ht => exact ⟨rfl, ofDigits_prefix _ hh ht⟩
  | 9, ht =>
    rw [(Equiv.symm_apply_eq _).2 h89.symm] at ht
    dsimp only
    split_ifs with hu
    · refine decode890_encodes ?_
      rw [word890, ← Word.ofDigits_units hh ht, hu]
    · exact ⟨decide_eq_true (Fin.pos_iff_ne_zero.2 hu), ofDigits_prefix _ hh ht⟩

/-- Every buffer holds the words of the instruction it decodes to, under every OPMAP that keeps the confirmed digits. -/
theorem decodeWith_encodes (hm : m.wf) (b : Buffer) : Encodes m b (decodeWith m b) := by
  unfold decodeWith
  generalize he : b.w0.hundreds = e
  match e, he with
  | 0, hh => exact ⟨rfl, ofDigits_prefix _ hh rfl⟩
  | 1, hh | 2, hh | 3, hh | 4, hh | 5, hh | 6, hh =>
    exact ⟨rfl, encodeTwo_takeTwo_prefix 1 (by decide) hh⟩
  | 7, hh => exact ⟨rfl, encodeSrc_takeSrc_prefix 1 hh rfl⟩
  | 8, hh => exact decodeGroup8_encodes hm hh
  | 9, hh => exact decodeGroup9_encodes hm hh

end

/-- Settles O2: the words of the decoded instruction are the buffer's first ones, table by table. -/
theorem encodeOfDecodeGivesTheWords : Obligations.EncodeOfDecodeGivesTheWords := by
  have hall (m : OpMap) (b : Buffer) (hm : m.wf) : (decodeWith m b).wellFormed = true ∧
      encodeWith m (decodeWith m b) = b.words.take (encodeWith m (decodeWith m b)).length := by
    obtain ⟨hwf, hprefix⟩ := decodeWith_encodes hm b
    exact ⟨hwf, List.prefix_iff_eq_take.1 hprefix⟩
  exact ⟨hall, fun b => hall Config.opmap b Config.opmap_wf⟩

/-! ### Decode lengths -/

/-- The digit of a source is not both 9 and 0, so the length tests of R80 ask for one word at most for each operand. -/
theorem Caps.extend_eq (base : Nat) (c : Caps) : c.extend base = base +
    (if (c.flags.sE = true ∧ c.sm = 9) ∨ (c.flags.iE = true ∧ c.sm = 0) then 1 else 0) +
    (if c.flags.dE = true ∧ c.dm = 9 then 1 else 0) := by
  by_cases h9 : c.sm = 9
  · simp [Caps.extend, h9]
  · simp [Caps.extend, h9, Nat.add_right_comm]

theorem Caps.extend_bounds (base : Nat) (c : Caps) : base ≤ c.extend base ∧ c.extend base ≤ base + 2 := by
  rw [Caps.extend_eq]
  split_ifs <;> omega

/-- An entry without a capability takes no further word. -/
theorem Caps.extend_none (base : Nat) (dm sm : Digit) : Caps.extend base ⟨CapFlags.none, dm, sm⟩ = base := rfl

/-- An entry with every capability takes both further words exactly with destination digit 9 and source digit 0 or 9. -/
theorem Caps.extend_full (base : Nat) (dm sm : Digit) :
    Caps.extend base ⟨CapFlags.full, dm, sm⟩ = base + 2 ↔ dm = 9 ∧ (sm = 0 ∨ sm = 9) := by
  rw [Caps.extend_eq]
  split_ifs <;> simp_all [CapFlags.full, or_comm]

theorem DecodeCaps.defaultPayload990_eq (e : Digit) : DecodeCaps.defaultPayload990 e =
    if 1 ≤ e.val ∧ e.val ≤ 6 then CapFlags.full else CapFlags.none := by
  revert e; decide

theorem DecodeCaps.defaultPayload890_eq (e : Digit) : DecodeCaps.defaultPayload890 e =
    if e = 1 then CapFlags.full else CapFlags.none := by
  revert e; decide

/-- Under the defaults the payloads after 990 with two further words (spec/30_encoding.md R82, R85). -/
theorem caps990_extend_eq_four (p : Word) : (caps990 Config.opmap Config.decodeCaps p).extend 2 = 4 ↔
    (1 ≤ p.hundreds.val ∧ p.hundreds.val ≤ 6) ∧ p.tens = 9 ∧ (p.units = 0 ∨ p.units = 9) := by
  by_cases h8 : p.hundreds = 8
  · have hcaps : caps990 Config.opmap Config.decodeCaps p = ⟨CapFlags.none, p.units, p.units⟩ := if_pos h8
    simp [hcaps, Caps.extend_none, h8]
  · have hcaps : caps990 Config.opmap Config.decodeCaps p =
        ⟨DecodeCaps.defaultPayload990 p.hundreds, p.tens, p.units⟩ := if_neg h8
    rw [hcaps, DecodeCaps.defaultPayload990_eq]
    split_ifs with h
    · rw [Caps.extend_full, and_iff_right h]
    · simp [Caps.extend_none, h]

/-- Under the defaults the payloads after 890 with two further words (spec/30_encoding.md R83, R85). -/
theorem caps890_extend_eq_four (p : Word) : (caps890 Config.opmap Config.decodeCaps p).extend 2 = 4 ↔
    p.hundreds = 1 ∧ p.tens = 9 ∧ (p.units = 0 ∨ p.units = 9) := by
  by_cases h6 : p.hundreds = 6
  · have hcaps : caps890 Config.opmap Config.decodeCaps p = ⟨CapFlags.none, p.units, p.units⟩ := if_pos h6
    simp [hcaps, Caps.extend_none, h6]
  · have hcaps : caps890 Config.opmap Config.decodeCaps p =
        ⟨DecodeCaps.defaultPayload890 p.hundreds, p.tens, p.units⟩ := if_neg h6
    rw [hcaps, DecodeCaps.defaultPayload890_eq]
    split_ifs with h
    · rw [Caps.extend_full, and_iff_right h]
    · simp [Caps.extend_none, h]

section
variable (m : OpMap) (c : DecodeCaps) {b : Buffer}

theorem decodeLengthWith_990 (h : b.w0 = 990) : decodeLengthWith m c b = (caps990 m c b.w1).extend 2 := if_pos h

theorem decodeLengthWith_890 (h : b.w0 = 890) : decodeLengthWith m c b = (caps890 m c b.w1).extend 2 := by
  simp [decodeLengthWith, h]

/-- Where the first word is neither 990 nor 890 the length starts from one word (spec/30_encoding.md R80,
R84). -/
theorem decodeLengthWith_bounds_of_one_word (h990 : b.w0 ≠ 990) (h890 : b.w0 ≠ 890) :
    1 ≤ decodeLengthWith m c b ∧ decodeLengthWith m c b ≤ 3 := by
  have hone := Caps.extend_bounds 1 (caps1 m c b.w0)
  rw [decodeLengthWith, if_neg h990, if_neg h890]
  split_ifs <;> omega

theorem decodeLengthWith_bounds (b : Buffer) : 1 ≤ decodeLengthWith m c b ∧ decodeLengthWith m c b ≤ 4 := by
  by_cases h990 : b.w0 = 990
  · have htwo := Caps.extend_bounds 2 (caps990 m c b.w1)
    rw [decodeLengthWith_990 m c h990]; omega
  · by_cases h890 : b.w0 = 890
    · have htwo := Caps.extend_bounds 2 (caps890 m c b.w1)
      rw [decodeLengthWith_890 m c h890]; omega
    · have hone := decodeLengthWith_bounds_of_one_word m c h990 h890
      omega

end

/-- The buffers of decode length 4 under the defaults (spec/30_encoding.md R85). -/
theorem decodeLength_eq_four (b : Buffer) : decodeLength b = 4 ↔
    ((b.w0 = 990 ∧ 1 ≤ b.w1.hundreds.val ∧ b.w1.hundreds.val ≤ 6) ∨ (b.w0 = 890 ∧ b.w1.hundreds = 1)) ∧
      b.w1.tens = 9 ∧ (b.w1.units = 0 ∨ b.w1.units = 9) := by
  by_cases h990 : b.w0 = 990
  · rw [decodeLength, decodeLengthWith_990 _ _ h990, caps990_extend_eq_four]
    simp [h990]
  · by_cases h890 : b.w0 = 890
    · rw [decodeLength, decodeLengthWith_890 _ _ h890, caps890_extend_eq_four]
      simp [h890]
    · have hlen : decodeLength b ≤ 3 := (decodeLengthWith_bounds_of_one_word _ _ h990 h890).2
      simp only [h990, h890, false_and, or_self, iff_false]
      omega

/-- Settles O4: each length starts from one word, or two after 990 and 890, and adds two at most. -/
theorem decodeLengthIsOneToFour : Obligations.DecodeLengthIsOneToFour := by
  refine ⟨decodeLengthWith_bounds, fun b => ?_⟩
  obtain ⟨hlow, hhigh⟩ := decodeLengthWith_bounds Config.opmap Config.decodeCaps b
  refine ⟨hlow, hhigh, fun h990 h890 => ?_, decodeLength_eq_four b⟩
  exact (decodeLengthWith_bounds_of_one_word _ _ h990 h890).2

end Sys2Proof

/-! ## Listed encodings, EXECUTE and FETCH

Which words stand for an unmapped encoding and which for a destination of mode digit 0, along the tables of the
machine's own OPMAP (spec/30_encoding.md R120, R121), and what EXECUTE and FETCH do. -/

namespace Sys2Proof.Machine

/-! ### The listed encodings -/

theorem takeDst_eq_mode0 (b : Buffer) (cur d : Digit) : takeDst b cur d = .mode0 ↔ d.val = 0 :=
  match d with
  | 0 => iff_of_true rfl rfl
  | 1 | 2 | 3 | 4 | 5 | 6 | 7 | 8 | 9 => iff_of_false Dst.noConfusion (by decide)

theorem dst?_of_isReserved {i : Instr} (h : i.isReserved = true) : i.dst? = none := by
  cases i <;> cases h <;> rfl

/-- The instruction is unmapped, and has a destination of mode digit 0, exactly where the first word and the payload of
the buffer are in the lists of R120 and R121. -/
structure ListedAs (b : Buffer) (i : Instr) : Prop where
  unmapped : i.isReserved = true ↔ unmappedWords b.w0 b.w1
  mode0 : i.dst? = some .mode0 ↔ dstMode0Words b.w0 b.w1

section
variable {b : Buffer} {i : Instr}

theorem ListedAs.reserved (hi : i.isReserved = true) (hu : unmappedWords b.w0 b.w1) : ListedAs b i := by
  have hm : ¬ dstMode0Words b.w0 b.w1 := by
    unfold unmappedWords at hu
    unfold dstMode0Words
    omega
  exact ⟨iff_of_true hi hu, iff_of_false (by simp [dst?_of_isReserved hi]) hm⟩

theorem ListedAs.noDst (hi : i.isReserved = false) (hd : i.dst? = none) (hu : ¬ unmappedWords b.w0 b.w1)
    (hm : ¬ dstMode0Words b.w0 b.w1) : ListedAs b i :=
  ⟨iff_of_false (by simp [hi]) hu, iff_of_false (by simp [hd]) hm⟩

theorem ListedAs.ofDst {cur d : Digit} (hi : i.isReserved = false) (hd : i.dst? = some (takeDst b cur d))
    (hu : ¬ unmappedWords b.w0 b.w1) (hm : d.val = 0 ↔ dstMode0Words b.w0 b.w1) : ListedAs b i := by
  refine ⟨iff_of_false (by simp [hi]) hu, ?_⟩
  rw [hd, Option.some.injEq, takeDst_eq_mode0, hm]

theorem decode990_listedAs (hp : b.w0.val = 990) : ListedAs b (decode990 Config.opmap b) := by
  have ht : b.w1.tens.val = b.w1.val / 10 % 10 := rfl
  have hu : b.w1.units.val = b.w1.val % 10 := rfl
  unfold decode990
  generalize he : Config.opmap.payload990 b.w1.hundreds = e
  have hh : b.w1.val / 100 = e.val := congrArg Fin.val he
  match e, hh with
  | 0, hh | 7, hh | 9, hh => exact .reserved rfl (by unfold unmappedWords; omega)
  | 1, hh | 2, hh | 3, hh | 4, hh | 5, hh | 6, hh =>
    exact .ofDst rfl rfl (by unfold unmappedWords; omega) (by unfold dstMode0Words; omega)
  | 8, hh =>
    dsimp only
    split_ifs with h0
    · have h0 : b.w1.tens.val = 0 := congrArg Fin.val h0
      exact .ofDst rfl rfl (by unfold unmappedWords; omega) (by unfold dstMode0Words; omega)
    · have h0 : b.w1.tens.val ≠ 0 := Fin.val_ne_of_ne h0
      exact .reserved rfl (by unfold unmappedWords; omega)

theorem decode890Sub_listedAs (hp : b.w0.val = 890) (hh : b.w1.val / 100 = 6) :
    ListedAs b (decode890Sub Config.opmap b) := by
  have hu : b.w1.units.val = b.w1.val % 10 := rfl
  unfold decode890Sub
  generalize he : Config.opmap.sub890 b.w1.tens = e
  have ht : b.w1.val / 10 % 10 = e.val := congrArg Fin.val he
  match e, ht with
  | 0, ht => exact .noDst rfl rfl (by unfold unmappedWords; omega) (by unfold dstMode0Words; omega)
  | 1, ht | 2, ht => exact .ofDst rfl rfl (by unfold unmappedWords; omega) (by unfold dstMode0Words; omega)
  | 3, ht | 4, ht | 5, ht | 6, ht | 7, ht | 8, ht | 9, ht => exact .reserved rfl (by unfold unmappedWords; omega)

theorem decode890_listedAs (hp : b.w0.val = 890) : ListedAs b (decode890 Config.opmap b) := by
  have ht : b.w1.tens.val = b.w1.val / 10 % 10 := rfl
  unfold decode890
  generalize he : Config.opmap.payload890 b.w1.hundreds = e
  have hh : b.w1.val / 100 = e.val := congrArg Fin.val he
  match e, hh with
  | 0, hh | 2, hh | 3, hh | 4, hh | 5, hh | 7, hh | 8, hh | 9, hh =>
    exact .reserved rfl (by unfold unmappedWords; omega)
  | 1, hh => exact .ofDst rfl rfl (by unfold unmappedWords; omega) (by unfold dstMode0Words; omega)
  | 6, hh => exact decode890Sub_listedAs hp hh

theorem decodeGroup99_listedAs (hg : b.w0.val / 10 = 99) : ListedAs b (decodeGroup99 Config.opmap b) := by
  unfold decodeGroup99
  generalize he : Config.opmap.group99 b.w0.units = e
  have hu : b.w0.val % 10 = e.val := congrArg Fin.val he
  match e, hu with
  | 0, hu => exact decode990_listedAs (by omega)
  | 1, hu | 2, hu | 3, hu | 9, hu =>
    exact .noDst rfl rfl (by unfold unmappedWords; omega) (by unfold dstMode0Words; omega)
  | 4, hu | 5, hu | 6, hu | 7, hu | 8, hu => exact .reserved rfl (by unfold unmappedWords; omega)

theorem decodeGroup9_listedAs (hh : b.w0.val / 100 = 9) : ListedAs b (decodeGroup9 Config.opmap b) := by
  have hu : b.w0.units.val = b.w0.val % 10 := rfl
  unfold decodeGroup9
  generalize he : Config.opmap.group9 b.w0.tens = e
  have ht : b.w0.val / 10 % 10 = e.val := congrArg Fin.val he
  match e, ht with
  | 0, ht | 1, ht | 4, ht => exact .ofDst rfl rfl (by unfold unmappedWords; omega) (by unfold dstMode0Words; omega)
  | 5, ht | 6, ht => exact .noDst rfl rfl (by unfold unmappedWords; omega) (by unfold dstMode0Words; omega)
  | 2, ht | 3, ht | 7, ht | 8, ht => exact .reserved rfl (by unfold unmappedWords; omega)
  | 9, ht => exact decodeGroup99_listedAs (by omega)

theorem decodeGroup8_listedAs (hh : b.w0.val / 100 = 8) : ListedAs b (decodeGroup8 Config.opmap b) := by
  have hu : b.w0.units.val = b.w0.val % 10 := rfl
  unfold decodeGroup8
  generalize he : Config.opmap.group8 b.w0.tens = e
  have ht : b.w0.val / 10 % 10 = e.val := congrArg Fin.val he
  match e, ht with
  | 1, ht | 4, ht => exact .ofDst rfl rfl (by unfold unmappedWords; omega) (by unfold dstMode0Words; omega)
  | 5, ht | 6, ht => exact .noDst rfl rfl (by unfold unmappedWords; omega) (by unfold dstMode0Words; omega)
  | 0, ht | 2, ht | 3, ht | 7, ht | 8, ht => exact .reserved rfl (by unfold unmappedWords; omega)
  | 9, ht =>
    dsimp only
    split_ifs with h0
    · have h0 : b.w0.units.val = 0 := congrArg Fin.val h0
      exact decode890_listedAs (by omega)
    · have h0 : b.w0.units.val ≠ 0 := Fin.val_ne_of_ne h0
      exact .reserved rfl (by unfold unmappedWords; omega)

end

theorem decode_listedAs (b : Buffer) : ListedAs b (decode b) := by
  have ht : b.w0.tens.val = b.w0.val / 10 % 10 := rfl
  unfold decode decodeWith
  generalize he : b.w0.hundreds = e
  have hh : b.w0.val / 100 = e.val := congrArg Fin.val he
  match e, hh with
  | 0, hh => exact .reserved rfl (by unfold unmappedWords; omega)
  | 1, hh | 2, hh | 3, hh | 4, hh | 5, hh | 6, hh =>
    exact .ofDst rfl rfl (by unfold unmappedWords; omega) (by unfold dstMode0Words; omega)
  | 7, hh => exact .noDst rfl rfl (by unfold unmappedWords; omega) (by unfold dstMode0Words; omega)
  | 8, hh => exact decodeGroup8_listedAs hh
  | 9, hh => exact decodeGroup9_listedAs hh

/-! ### EXECUTE on the listed encodings -/

theorem execute_of_running {s : State} (h : s.pstate = .running) : execute s = exec (decode s.buf) s := if_pos h

theorem execute_of_not_running {s : State} (h : s.pstate ≠ .running) : execute s = .next s := if_neg h

theorem shapeOf_of_isReserved {i : Instr} (h : i.isReserved = true) : shapeOf i = .stop .error := by
  cases i <;> cases h <;> rfl

/-- Settles O6: the decoded instruction is reserved where the words are listed, and its shape writes PSTATE alone. -/
theorem unmappedEncodingsAreTheListedOnes : Obligations.UnmappedEncodingsAreTheListedOnes := by
  intro s
  have hlist := (decode_listedAs s.buf).unmapped
  refine ⟨hlist, fun hrun hwords => ?_⟩
  rw [execute_of_running hrun, exec_eq_run, shapeOf_of_isReserved (hlist.2 hwords)]
  rfl

/-- The destination of an instruction, by its shape. -/
def Shape.dst? : Shape → Option Dst
  | .assign _ d _ | .divide d _ | .compare _ _ d _ | .pop d => some d
  | .test _ _ _ | .jumpIf _ _ | .push _ | .call _ | .ret | .retIf _ | .stop _ | .nothing => none

theorem dst?_eq (i : Instr) : i.dst? = (shapeOf i).dst? := by cases i <;> rfl

section
variable {sh : Shape} {i : Instr} {s : State}

theorem Shape.run_of_mode0 (h : sh.dst? = some .mode0) : sh.run s = .refused .unspecDstMode0 := by
  cases sh with
  | assign | divide | compare | pop => cases h; rfl
  | test | jumpIf | push | call | ret | retIf | stop | nothing => cases h

/-- What acts through a destination that has a location does not stop, if what it goes on with does not. -/
theorem withDst_answers {d : Dst} {k : Loc → Result} (hd : d ≠ .mode0) (hk : ∀ l, ∃ t, k l = .next t) :
    ∃ t, withDst d s k = .next t := by
  obtain ⟨l, hl⟩ := s.dstLoc_isSome d hd
  rw [withDst_of_loc d s k l hl]
  exact hk l

theorem Shape.run_of_not_mode0 (h : sh.dst? ≠ some .mode0) : ∃ t, sh.run s = .next t := by
  cases sh with
  | assign | compare | pop => exact withDst_answers (fun hd => h (congrArg some hd)) fun _ => ⟨_, rfl⟩
  | divide d src =>
    refine withDst_answers (fun hd => h (congrArg some hd)) fun l => ?_
    split_ifs
    · exact ⟨_, raiseError_eq .div0 s⟩
    · exact ⟨_, rfl⟩
  | test | jumpIf | push | call | ret | retIf | stop | nothing => exact ⟨_, rfl⟩

end

theorem exec_of_mode0 {i : Instr} {s : State} (h : i.dst? = some .mode0) : exec i s = .refused .unspecDstMode0 := by
  rw [exec_eq_run]
  exact Shape.run_of_mode0 (dst?_eq i ▸ h)

theorem exec_of_not_mode0 {i : Instr} {s : State} (h : i.dst? ≠ some .mode0) : ∃ t, exec i s = .next t := by
  rw [exec_eq_run]
  exact Shape.run_of_not_mode0 (dst?_eq i ▸ h)

theorem execute_of_mode0Words {s : State} (hrun : s.pstate = .running) (hw : dstMode0Words s.buf.w0 s.buf.w1) :
    execute s = .refused .unspecDstMode0 := by
  rw [execute_of_running hrun]
  exact exec_of_mode0 ((decode_listedAs s.buf).mode0.2 hw)

theorem execute_answers {s : State} (h : ¬ (s.pstate = .running ∧ dstMode0Words s.buf.w0 s.buf.w1)) :
    ∃ t, execute s = .next t := by
  by_cases hrun : s.pstate = .running
  · rw [execute_of_running hrun]
    exact exec_of_not_mode0 fun hd => h ⟨hrun, (decode_listedAs s.buf).mode0.1 hd⟩
  · exact ⟨s, execute_of_not_running hrun⟩

/-- Settles O7: mode digit 0 of a destination is what an instruction is refused for, and the only thing. -/
theorem refusedEncodingsAreTheListedOnes : Obligations.RefusedEncodingsAreTheListedOnes := by
  intro s
  refine ⟨fun r => ⟨fun h => ?_, ?_⟩, execute_answers⟩
  · by_cases hw : s.pstate = .running ∧ dstMode0Words s.buf.w0 s.buf.w1
    · obtain ⟨hrun, hwords⟩ := hw
      rw [execute_of_mode0Words hrun hwords] at h
      cases h
      exact ⟨hrun, hwords, rfl⟩
    · obtain ⟨t, ht⟩ := execute_answers hw
      rw [ht] at h
      cases h
  · rintro ⟨hrun, hwords, rfl⟩
    exact execute_of_mode0Words hrun hwords

/-! ### Fixed words and mode digits -/

/-- Settles O3: each row by evaluation of the decoder. -/
theorem wordsOfTheSpecDecode : Obligations.WordsOfTheSpecDecode :=
  ⟨rfl, rfl, rfl, rfl, rfl, rfl, rfl, rfl, rfl, rfl⟩

/-- Settles O8: each row of the resolver's table is a clause of its definition. -/
theorem modeDigitsSelectTheirOperands : Obligations.ModeDigitsSelectTheirOperands := fun _ _ _ =>
  ⟨rfl, rfl, rfl, rfl, rfl, rfl, rfl, rfl, rfl, rfl, rfl, rfl, rfl, rfl, rfl, rfl, rfl, rfl, rfl, rfl⟩

/-! ### FETCH, and the core outside Running -/

/-- Settles O9: the buffer's words are the ten memory reads, in order. -/
theorem fetchFillsTheBufferFromIp : Obligations.FetchFillsTheBufferFromIp := fun s k => by
  rw [fetch_buf, State.fetchBuffer_word, State.fetchAddr]

/-- Settles O10: the new IP is the wrapped sum, and the buffer and IP are the two fields a fetch sets. -/
theorem fetchAdvancesIpByTheDecodeLength : Obligations.FetchAdvancesIpByTheDecodeLength := fun s => by
  refine ⟨?_, rfl⟩
  rw [fetch_ip, fetch_buf, State.fetchAddr, Word.wrap]

/-- Settles O13: EXECUTE and the step each begin with the test for Running. -/
theorem coreDoesNothingOutsideRunning : Obligations.CoreDoesNothingOutsideRunning := fun _ h =>
  ⟨step_of_not_running h, execute_of_not_running h⟩

end Sys2Proof.Machine

/-! ## Words, lengths and destinations of one instruction

What the statement of an instruction is made of, once for every instruction: that its words decode to it, the length
formula of its entry (spec/30_encoding.md R80 to R83), and what a write at a destination leaves unchanged. -/

namespace Sys2Proof.Machine

/-! ### Lengths of the entries -/

/-- A full entry adds the three brackets of R80 for the digits of its operands. -/
theorem Caps.extend_full_digits (base : Nat) (d : Dst) (src : Src) :
    Caps.extend base ⟨CapFlags.full, d.digit, src.digit⟩ = twoOperandLength base d src := by
  simp [Caps.extend, CapFlags.full, twoOperandLength, bracket, Nat.add_right_comm]

/-- A destination-enabled entry adds the one bracket for its digit. -/
theorem Caps.extend_dst (base : Nat) (dm sm : Digit) :
    Caps.extend base ⟨⟨true, false, false⟩, dm, sm⟩ = base + bracket (dm == 9) := by
  simp [Caps.extend, bracket]

section
variable {w : Word}

/-- Groups 1 to 6 are full under the defaults (spec/30_encoding.md R81). -/
theorem caps1_two (hlow : 1 ≤ w.hundreds.val) (hhigh : w.hundreds.val ≤ 6) :
    caps1 Config.opmap Config.decodeCaps w = ⟨CapFlags.full, w.tens, w.units⟩ := by
  unfold caps1
  generalize w.hundreds = h at hlow hhigh ⊢
  match h, hlow, hhigh with
  | 1, _, _ | 2, _, _ | 3, _, _ | 4, _, _ | 5, _, _ | 6, _, _ => rfl

theorem caps1_group9 (hh : w.hundreds = 9) :
    caps1 Config.opmap Config.decodeCaps w = ⟨DecodeCaps.defaultGroup9 w.tens, w.units, w.units⟩ := by
  unfold caps1
  rw [hh]
  rfl

/-- Group 8 has no capability under the defaults (spec/30_encoding.md R81). -/
theorem caps1_group8 (hh : w.hundreds = 8) :
    caps1 Config.opmap Config.decodeCaps w = ⟨CapFlags.none, w.units, w.units⟩ := by
  unfold caps1
  rw [hh]
  rfl

end

/-- Outside the groups 89 and 99 the length is that of the first word's entry (spec/30_encoding.md R80, R84). -/
theorem decodeLength_of_entry {b : Buffer} (h : b.w0.hundreds.val < 8 ∨ b.w0.tens ≠ 9) :
    decodeLength b = (caps1 Config.opmap Config.decodeCaps b.w0).extend 1 := by
  have hne {w : Word} (hh : 8 ≤ w.hundreds.val) (ht : w.tens = 9) : b.w0 ≠ w := by
    rintro rfl
    exact h.elim (fun hlt => absurd hh (not_le.2 hlt)) fun hn => hn ht
  have hlib : ¬ (b.w0 = Config.opmap.libCode ∨ b.w0 = Config.opmap.sysCode) :=
    not_or.2 ⟨hne (by decide) (by decide), hne (by decide) (by decide)⟩
  rw [decodeLength, decodeLengthWith, if_neg (hne (by decide) (by decide)), if_neg (hne (by decide) (by decide)),
    if_neg hlib]

/-! ### Words that decode to an instruction -/

section
variable {i : Instr}

/-- A well-formed instruction is encoded as its words, with the length of its first word's entry if that is in neither
group 89 nor group 99. -/
theorem encodedAs_of_entry {w : Word} {ws : List Word} (hi : i.wellFormed = true) (he : encode i = w :: ws)
    (h : w.hundreds.val < 8 ∨ w.tens ≠ 9) :
    EncodedAs i (w :: ws) ((caps1 Config.opmap Config.decodeCaps w).extend 1) := by
  intro rest
  have hback := decodeWith_encodeWith Config.opmap Config.opmap_wf i hi rest
  exact ⟨he ▸ hback, decodeLength_of_entry (b := Buffer.ofWords (w :: ws ++ rest)) h⟩

/-- The two-operand words `hDS` of groups 1 to 6. -/
theorem encodedAs_encodeTwo {h : Digit} {d : Dst} {src : Src} (hi : i.wellFormed = true)
    (he : encode i = encodeTwo h d src) (hlow : 1 ≤ h.val) (hhigh : h.val ≤ 6) :
    EncodedAs i (encodeTwo h d src) (twoOperandLength 1 d src) := by
  have hcaps := caps1_two (w := Word.ofDigits h d.digit src.digit) (by simpa using hlow) (by simpa using hhigh)
  have hlen := encodedAs_of_entry hi he (.inl (by simp only [Word.hundreds_ofDigits]; omega))
  rw [hcaps, Word.tens_ofDigits, Word.units_ofDigits, Caps.extend_full_digits] at hlen
  exact hlen

/-- The one-destination words `9tM` of a destination-enabled entry. -/
theorem encodedAs_encodeDst_group9 {t : Digit} {m : Dst} (hi : i.wellFormed = true)
    (he : encode i = encodeDst 9 t m) (ht : t ≠ 9) (hcap : DecodeCaps.defaultGroup9 t = ⟨true, false, false⟩) :
    EncodedAs i (encodeDst 9 t m) (1 + bracket (m.digit == 9)) := by
  have hcaps := caps1_group9 (w := Word.ofDigits 9 t m.digit) (by simp)
  have hlen := encodedAs_of_entry hi he (.inr (by simpa using ht))
  rw [hcaps, Word.tens_ofDigits, Word.units_ofDigits, hcap, Caps.extend_dst] at hlen
  exact hlen

/-- The one-destination words `8tM`, whose extension word the decode length leaves out (spec/30_encoding.md R81). -/
theorem encodedAs_encodeDst_group8 {t : Digit} {m : Dst} (hi : i.wellFormed = true)
    (he : encode i = encodeDst 8 t m) (ht : t ≠ 9) : EncodedAs i (encodeDst 8 t m) 1 := by
  have hcaps := caps1_group8 (w := Word.ofDigits 8 t m.digit) (by simp)
  have hlen := encodedAs_of_entry hi he (.inr (by simpa using ht))
  rw [hcaps, Caps.extend_none] at hlen
  exact hlen

end

/-! ### Reading and writing at a destination -/

section
variable (s : State) (v : Word)

theorem State.setReg_setsReg (r : GReg) : SetsReg r v s (s.setReg r v) :=
  ⟨rfl, s.setReg_reg_same r v, fun q hq => s.setReg_reg_other r q v hq⟩

theorem State.memWrite_storesAt (a : Word) : StoresAt a v s ((s.memWrite a v).setLastw (s.xlat a)) :=
  ⟨rfl, Memory.read_write_same s.mem (s.xlat a) v, fun p hp => Memory.read_write_other s.mem (s.xlat a) p v hp⟩

variable {s} {d : Dst} {l : Loc}

theorem State.readLoc_of_dstLoc (h : s.dstLoc d = some l) : s.readLoc l = s.dstValue d := by
  cases d with
  | mode0 => cases h
  | reg | ind | abs => cases h; rfl

/-- A write through a destination's location puts the word at the destination, with the frame of R116. -/
theorem State.writeLoc_putsAt (h : s.dstLoc d = some l) : PutsAt d v s (s.writeLoc l v) := by
  cases d with
  | mode0 => cases h
  | reg r => cases h; exact s.setReg_setsReg v (gregOf r)
  | ind r => cases h; exact s.memWrite_storesAt v (s.reg (gregOf r))
  | abs a => cases h; exact s.memWrite_storesAt v a

end

/-! ### Instructions that assign to their destination -/

/-- An instruction of the assigning shape puts `f` of its operand values at its destination. -/
theorem exec_of_assign {i : Instr} {f : Word → Word → Word} {d : Dst} {src : Src} {s : State}
    (hi : shapeOf i = .assign f d src) (hd : d ≠ .mode0) :
    ∃ t, exec i s = .next t ∧ PutsAt d (f (s.dstValue d) (s.srcValue src)) s t := by
  obtain ⟨l, hl⟩ := s.dstLoc_isSome d hd
  refine ⟨s.writeLoc l (f (s.dstValue d) (s.srcValue src)), ?_, State.writeLoc_putsAt _ hl⟩
  rw [exec_eq_run, hi, Shape.run, combineDst, withDst_of_loc d s _ l hl, State.readLoc_of_dstLoc hl]

theorem combinesAs_of_assign {mk : Dst → Src → Instr} {g : Word → Word → Word} {f : Word → Word → Nat}
    (hmk : ∀ d src, shapeOf (mk d src) = .assign g d src) (hg : ∀ dv sv, g dv sv = Word.wrap (f dv sv)) :
    CombinesAs mk f := by
  intro d src s
  refine ⟨fun hd => exec_of_mode0 ?_, fun hd => ?_⟩
  · rw [dst?_eq, hmk, hd, Shape.dst?]
  · rw [← hg]
    exact exec_of_assign (hmk d src) hd

/-- The source that the shape of a one-operand instruction carries is a constant. -/
theorem updatesAs_of_assign {mk : Dst → Instr} {g : Word → Word → Word} {v : Word} {f : Word → Nat}
    (hmk : ∀ m, shapeOf (mk m) = .assign g m (.imm v)) (hg : ∀ dv, g dv v = Word.wrap (f dv)) :
    UpdatesAs mk f := by
  intro m s
  refine ⟨fun hm => exec_of_mode0 ?_, fun hm => ?_⟩
  · rw [dst?_eq, hmk, hm, Shape.dst?]
  · rw [← hg]
    exact exec_of_assign (hmk m) hm

/-! ## Arithmetic (spec/41_arithmetic.md) -/

/-- Settles O15: the three are full entries of the top-level table, and assign their result to the destination. -/
theorem addSubMulAreModulo1000 : Obligations.AddSubMulAreModulo1000 := by
  refine ⟨fun d src => ⟨?addWords, ?subWords, ?mulWords⟩, ?add, ?sub, ?mul⟩
  case addWords | subWords | mulWords => exact encodedAs_encodeTwo rfl rfl (by decide) (by decide)
  case add | sub | mul => exact combinesAs_of_assign (fun _ _ => rfl) fun _ _ => rfl

section
variable {d : Dst} {src : Src} {s : State}

/-- What DIV does once its destination is resolved (spec/41_arithmetic.md R133). -/
theorem exec_div_of_dstLoc {l : Loc} (hl : s.dstLoc d = some l) :
    exec (.div d src) s = if s.srcValue src = 0 then .next (s.setPstate .error)
      else .next (s.writeLoc l (Word.wrap ((s.dstValue d).val / (s.srcValue src).val))) := by
  rw [exec_eq_run, shapeOf, Shape.run, execDiv, withDst_of_loc d s _ l hl, State.readLoc_of_dstLoc hl, raiseError_eq]
  simp only [Fin.val_eq_zero_iff]

/-- A source of 0 is Error(DIV0), with nothing written (spec/41_arithmetic.md R133). -/
theorem exec_div_of_zero (hd : d ≠ .mode0) (h0 : s.srcValue src = 0) :
    exec (.div d src) s = .next (s.setPstate .error) := by
  obtain ⟨l, hl⟩ := s.dstLoc_isSome d hd
  rw [exec_div_of_dstLoc hl, if_pos h0]

theorem exec_div_of_ne_zero (hd : d ≠ .mode0) (h0 : s.srcValue src ≠ 0) :
    ∃ t, exec (.div d src) s = .next t ∧
      PutsAt d (Word.wrap ((s.dstValue d).val / (s.srcValue src).val)) s t := by
  obtain ⟨l, hl⟩ := s.dstLoc_isSome d hd
  exact ⟨_, (exec_div_of_dstLoc hl).trans (if_neg h0), State.writeLoc_putsAt _ hl⟩

end

/-- Settles O16: the refusal comes with the resolution of the destination, before the test for a source of 0. -/
theorem divDividesOrEntersError : Obligations.DivDividesOrEntersError :=
  ⟨fun _ _ => encodedAs_encodeTwo rfl rfl (by decide) (by decide), fun _ _ _ =>
    ⟨fun hd => exec_of_mode0 (congrArg some hd), exec_div_of_zero, exec_div_of_ne_zero⟩⟩

/-- Settles O17: INC and DEC are destination-enabled entries of group 9, NEG is an entry of group 8, and each assigns
its result to its one operand. -/
theorem incDecNegAreModulo1000 : Obligations.IncDecNegAreModulo1000 := by
  refine ⟨fun m => ⟨?incWords, ?decWords, ?negWords⟩, ?inc, ?dec, ?neg⟩
  case incWords | decWords => exact encodedAs_encodeDst_group9 rfl rfl (by decide) rfl
  case negWords => exact encodedAs_encodeDst_group8 rfl rfl (by decide)
  case inc | neg => exact updatesAs_of_assign (fun _ => rfl) fun _ => rfl
  case dec =>
    have hdec (dv : Word) : 999 + dv.val = 1000 + dv.val - 1 := by omega
    exact updatesAs_of_assign (fun _ => rfl) fun dv => congrArg Word.wrap (hdec dv)

end Sys2Proof.Machine

/-! ## Move and compare (spec/42_move_compare.md) -/

namespace Sys2Proof.Machine

/-! ### Words and flags -/

/-- A word is not changed by narrowing it (spec/00_scope.md R9). -/
@[simp] theorem wrap_val_eq_self (w : Word) : Word.wrap w.val = w := Fin.ext (Nat.mod_eq_of_lt w.isLt)

section
variable {dv sv : Word}

theorem compareFlags_of_lt (h : dv.val < sv.val) : compareFlags dv sv = flagLT := if_pos h

theorem compareFlags_of_gt (h : sv.val < dv.val) : compareFlags dv sv = flagGT :=
  (if_neg h.asymm).trans (if_pos h)

theorem compareFlags_of_eq (h : dv = sv) : compareFlags dv sv = flagEQ := by
  rw [compareFlags, h, if_neg (lt_irrefl _), if_neg (lt_irrefl _)]

theorem signFlags_of_negative (h : 500 ≤ sv.val) : signFlags sv = flagLT := if_pos h

theorem signFlags_of_positive (hlow : 1 ≤ sv.val) (hhigh : sv.val ≤ 499) : signFlags sv = flagGT :=
  (if_neg (by omega)).trans (if_pos hlow)

theorem signFlags_of_zero (h : sv = 0) : signFlags sv = flagEQ := by rw [h]; rfl

end

/-! ### Words of group 8 and instructions that set FLAGS -/

/-- An instruction whose first word is `8tu` has decode length 1, whatever words it takes after it
(spec/30_encoding.md R81). -/
theorem encodedAs_group8 {i : Instr} {t u : Digit} {ws : List Word} (hi : i.wellFormed = true)
    (he : encode i = Word.ofDigits 8 t u :: ws) (ht : t ≠ 9) : EncodedAs i (Word.ofDigits 8 t u :: ws) 1 := by
  have hcaps := caps1_group8 (w := Word.ofDigits 8 t u) (by simp)
  have hlen := encodedAs_of_entry hi he (.inr (by simpa using ht))
  rwa [hcaps, Caps.extend_none] at hlen

section
variable {i : Instr} {src : Src} {s : State}

/-- An instruction of the comparing shape sets FLAGS to `f` of its operand values. -/
theorem exec_of_compare {f : Word → Word → Word} {hf : ∀ x y, oneHot (f x y)} {d : Dst}
    (hi : shapeOf i = .compare f hf d src) (hd : d ≠ .mode0) :
    exec i s = .next (s.setFlags (f (s.dstValue d) (s.srcValue src))) := by
  obtain ⟨l, hl⟩ := s.dstLoc_isSome d hd
  rw [exec_eq_run, hi, Shape.run, flagsFromDst, withDst_of_loc d s _ l hl, State.readLoc_of_dstLoc hl]

/-- An instruction of the testing shape sets FLAGS to `f` of its source's value. -/
theorem exec_of_test {f : Word → Word} {hf : ∀ x, oneHot (f x)} (hi : shapeOf i = .test f hf src) :
    exec i s = .next (s.setFlags (f (s.srcValue src))) := by
  rw [exec_eq_run, hi, Shape.run, flagsFromSrc_eq]

end

/-! ### The statements -/

/-- Settles O18: a full entry of the top-level table, and an assignment of the source's value as it is. -/
theorem movCopiesTheSource : Obligations.MovCopiesTheSource := by
  refine ⟨fun d src => encodedAs_encodeTwo rfl rfl (by decide) (by decide), ?_⟩
  exact combinesAs_of_assign (fun _ _ => rfl) fun _ sv => (wrap_val_eq_self sv).symm

/-- Settles O19: an entry of group 8, and an assignment of the constant 0. -/
theorem movzClearsTheDestination : Obligations.MovzClearsTheDestination := by
  refine ⟨fun m => encodedAs_encodeDst_group8 rfl rfl (by decide), ?_⟩
  exact updatesAs_of_assign (fun _ => rfl) fun _ => rfl

/-- Settles O20: a full entry of the top-level table, and a comparison of the two operand values. -/
theorem cmpSetsFlagsByUnsignedOrder : Obligations.CmpSetsFlagsByUnsignedOrder := by
  refine ⟨fun d src => encodedAs_encodeTwo rfl rfl (by decide) (by decide), fun d src s => ?_⟩
  refine ⟨fun hd => exec_of_mode0 (congrArg some hd), fun hd => ?_⟩
  have hexec : exec (.cmp d src) s = .next (s.setFlags (compareFlags (s.dstValue d) (s.srcValue src))) :=
    exec_of_compare rfl hd
  rw [hexec]
  refine ⟨fun hlt => ?below, fun hgt => ?above, fun heq => ?equal⟩
  case below => rw [compareFlags_of_lt hlt]; rfl
  case above => rw [compareFlags_of_gt hgt]; rfl
  case equal => rw [compareFlags_of_eq heq]; rfl

/-- Settles O21: an entry of group 8, and a test of the source's value for its base-1000 sign. -/
theorem cmpzSetsFlagsByComplementSign : Obligations.CmpzSetsFlagsByComplementSign := by
  refine ⟨fun m => encodedAs_group8 rfl rfl (by decide), fun m s => ?_⟩
  have hexec : exec (.cmpz m) s = .next (s.setFlags (signFlags (s.srcValue m))) := exec_of_test rfl
  rw [hexec]
  refine ⟨fun hneg => ?negative, fun hlow hhigh => ?positive, fun hzero => ?zero⟩
  case negative => rw [signFlags_of_negative hneg]; rfl
  case positive => rw [signFlags_of_positive hlow hhigh]; rfl
  case zero => rw [signFlags_of_zero hzero]; rfl

end Sys2Proof.Machine

/-! ## Stack (spec/43_stack.md) -/

namespace Sys2Proof.Machine

/-! ### Words of group 9 -/

/-- An immediate-enabled entry adds the one bracket for its digit. -/
theorem Caps.extend_imm (base : Nat) (dm sm : Digit) :
    Caps.extend base ⟨⟨false, false, true⟩, dm, sm⟩ = base + bracket (sm == 0) := by
  simp [Caps.extend, bracket]

/-- An instruction whose first word is `9tu` outside group 99 has the length of the entry `t`, whatever words it takes
after it (spec/30_encoding.md R81). -/
theorem encodedAs_group9 {i : Instr} {t u : Digit} {ws : List Word} (hi : i.wellFormed = true)
    (he : encode i = Word.ofDigits 9 t u :: ws) (ht : t ≠ 9) :
    EncodedAs i (Word.ofDigits 9 t u :: ws) (Caps.extend 1 ⟨DecodeCaps.defaultGroup9 t, u, u⟩) := by
  have hcaps := caps1_group9 (w := Word.ofDigits 9 t u) (by simp)
  have hlen := encodedAs_of_entry hi he (.inr (by simpa using ht))
  rwa [hcaps, Word.tens_ofDigits, Word.units_ofDigits] at hlen

/-- A word of group 99 other than 990, LIB and SYS has decode length 1: the words that the length rule
tests for by name end in 0, 4 and 5 (spec/30_encoding.md R80, R84). -/
theorem decodeLength_of_group99 {b : Buffer} {u : Digit} (hb : b.w0 = Word.ofDigits 9 9 u) (h0 : u ≠ 0) (h4 : u ≠ 4)
    (h5 : u ≠ 5) : decodeLength b = 1 := by
  have hne (w : Word) (hu : u ≠ w.units) : b.w0 ≠ w := by
    rintro rfl
    rw [hb, Word.units_ofDigits] at hu
    exact hu rfl
  have hlib : ¬ (b.w0 = Config.opmap.libCode ∨ b.w0 = Config.opmap.sysCode) := not_or.2 ⟨hne _ h4, hne _ h5⟩
  rw [decodeLength, decodeLengthWith, if_neg (hne 990 h0), if_neg (hne 890 h0), if_neg hlib,
    caps1_group9 (by simp [hb]), hb, Word.tens_ofDigits]
  exact Caps.extend_none 1 _ _

/-- The instructions that are one word of group 99. -/
theorem encodedAs_group99 {i : Instr} {u : Digit} (hi : i.wellFormed = true) (he : encode i = [Word.ofDigits 9 9 u])
    (h0 : u ≠ 0) (h4 : u ≠ 4) (h5 : u ≠ 5) : EncodedAs i [Word.ofDigits 9 9 u] 1 := by
  intro rest
  have hback := decodeWith_encodeWith Config.opmap Config.opmap_wf i hi rest
  exact ⟨he ▸ hback, decodeLength_of_group99 rfl h0 h4 h5⟩

/-! ### The stack primitives -/

section
variable (s : State) (v : Word)

/-- A push stores below SP, with the frame of R170. -/
theorem State.push_pushes : Pushes v s (s.push v) :=
  ⟨rfl, rfl, Memory.read_write_same s.mem (s.xlat s.spBelow) v, fun p hp =>
    Memory.read_write_other s.mem (s.xlat s.spBelow) p v hp⟩

/-- The word on top of the stack after a push is the pushed one (spec/43_stack.md R175). -/
@[simp] theorem State.push_popValue : (s.push v).popValue = v :=
  State.memRead_memWrite_same (s.setSp s.spBelow) s.spBelow v

/-- A pop after a push brings SP back, across the wrap at 0 too (spec/43_stack.md R175). -/
theorem State.push_popped_sp : (s.push v).popped.sp = s.sp := by
  have hwrap : ((999 + s.sp.val) % 1000 + 1) % 1000 = s.sp.val := by omega
  exact Fin.ext hwrap

/-- A destination's location does not depend on SP (spec/92_eei_decisions.md D30). -/
@[simp] theorem State.popped_dstLoc (d : Dst) : s.popped.dstLoc d = s.dstLoc d := by cases d <;> rfl

/-! ### The stack instructions -/

theorem exec_push (m : Src) : exec (.push m) s = .next (s.push (s.srcValue m)) := exec_eq_run (.push m) s

theorem exec_pushz : exec .pushz s = .next (s.push 0) := exec_eq_run .pushz s

variable {s}

/-- What POP does once its destination is resolved (spec/43_stack.md R173). -/
theorem exec_pop_of_dstLoc {d : Dst} {l : Loc} (hl : s.dstLoc d = some l) :
    exec (.pop d) s = .next (s.popped.writeLoc l s.popValue) :=
  (exec_eq_run (.pop d) s).trans (withDst_of_loc d s _ l hl)

end

/-! ### The statements -/

/-- Settles O22: PUSH is an immediate-enabled entry of group 9 and PUSHZ a word of group 99, and each pushes. -/
theorem pushStoresBelowTheStackPointer : Obligations.PushStoresBelowTheStackPointer := by
  refine ⟨fun m => ?pushWords, ?pushzWords, fun m s => ?push, fun s => ?pushz⟩
  case pushWords =>
    rw [← Caps.extend_imm 1 m.digit m.digit]
    exact encodedAs_group9 rfl rfl (by decide)
  case pushzWords =>
    rw [word991]
    exact encodedAs_group99 rfl rfl (by decide) (by decide) (by decide)
  case push => exact ⟨_, exec_push s m, s.push_pushes (s.srcValue m)⟩
  case pushz => exact ⟨_, exec_pushz s, s.push_pushes 0⟩

/-- Settles O23: POP is an entry of group 9 with no capability, and writes the popped word through the location that
its destination has before SP moves, which is the one it has after. -/
theorem popLoadsFromTheStackPointer : Obligations.PopLoadsFromTheStackPointer := by
  refine ⟨fun m => ?words, fun d s => ⟨fun hd => exec_of_mode0 (congrArg some hd), fun hd => ?pop⟩⟩
  case words =>
    rw [← Caps.extend_none 1 m.digit m.digit]
    exact encodedAs_group9 rfl rfl (by decide)
  case pop =>
    obtain ⟨l, hl⟩ := s.dstLoc_isSome d hd
    have hputs : PutsAt d s.popValue s.popped (s.popped.writeLoc l s.popValue) :=
      State.writeLoc_putsAt _ ((s.popped_dstLoc d).trans hl)
    exact ⟨_, exec_pop_of_dstLoc hl, hputs⟩

/-- Settles O24, the stack law R175: the pop reads the cell the push wrote, and SP comes back. -/
theorem popAfterPushReturnsThePushedValue : Obligations.PopAfterPushReturnsThePushedValue := by
  intro m r s
  have hpop := exec_pop_of_dstLoc (s := s.push (s.srcValue m)) (d := .reg r) rfl
  rw [State.push_popValue] at hpop
  refine ⟨_, _, exec_push s m, hpop, s.push_popped_sp _, State.setReg_reg_same _ _ _, fun q hq => ?_⟩
  exact State.setReg_reg_other _ _ q _ hq

end Sys2Proof.Machine

/-! ## Control transfer (spec/44_control.md) -/

namespace Sys2Proof.Machine

/-! ### Words of group 7 -/

/-- A source-enabled entry adds the one bracket for its digit. -/
theorem Caps.extend_src (base : Nat) (dm sm : Digit) :
    Caps.extend base ⟨⟨false, true, false⟩, dm, sm⟩ = base + bracket (sm == 9) := by
  simp [Caps.extend, bracket]

/-- Group 7 is source-enabled only under the defaults (spec/30_encoding.md R81). -/
theorem caps1_group7 {w : Word} (hh : w.hundreds = 7) :
    caps1 Config.opmap Config.decodeCaps w = ⟨⟨false, true, false⟩, w.tens, w.units⟩ := by
  unfold caps1
  rw [hh]
  rfl

/-- An instruction whose first word is `7tu` has the one bracket of group 7, whatever words it takes after it
(spec/30_encoding.md R81). -/
theorem encodedAs_group7 {i : Instr} {t u : Digit} {ws : List Word} (hi : i.wellFormed = true)
    (he : encode i = Word.ofDigits 7 t u :: ws) : EncodedAs i (Word.ofDigits 7 t u :: ws) (1 + bracket (u == 9)) := by
  have hcaps := caps1_group7 (w := Word.ofDigits 7 t u) (by simp)
  have hlen := encodedAs_of_entry hi he (.inl (by simp))
  rwa [hcaps, Word.units_ofDigits, Caps.extend_src] at hlen

/-! ### The condition test -/

section
variable {flags : Word} {c : Digit}

theorem condHolds_of_and_ne_zero (h : flags.val &&& c.val ≠ 0) : condHolds flags c = true := decide_eq_true h

theorem condHolds_of_and_eq_zero (h : flags.val &&& c.val = 0) : condHolds flags c = false :=
  decide_eq_false (not_not_intro h)

end

/-! ### What the control-transfer instructions do -/

section
variable (c : Digit) (src : Src) (s : State)

theorem exec_jcc : exec (.jcc c src) s = execJcc c src s := exec_eq_run (.jcc c src) s

/-- The target of a CALL is read in the state before the push (spec/92_eei_decisions.md D14). -/
theorem exec_call : exec (.call src) s = .next ((s.push s.ip).setIp (s.srcValue src)) := exec_eq_run (.call src) s

theorem exec_ret : exec .ret s = .next s.popIp := exec_eq_run .ret s

theorem exec_retcc : exec (.retcc c) s = execRetcc c s := exec_eq_run (.retcc c) s

theorem exec_hlt : exec .hlt s = .next (s.setPstate .idle) := exec_eq_run .hlt s

theorem exec_nop : exec .nop s = .next s := exec_eq_run .nop s

/-- `IP <- Pop()` writes IP and SP alone (spec/43_stack.md R171). -/
theorem State.popIp_eq : s.popIp = { s with ip := s.memRead s.sp, sp := Word.wrap (s.sp.val + 1) } := rfl

end

/-! ### The statements -/

/-- Settles O25: a source-enabled entry of the top-level table, and a jump that turns on the condition test. -/
theorem jccJumpsWhenAMaskedFlagIsSet : Obligations.JccJumpsWhenAMaskedFlagIsSet := by
  refine ⟨fun c src => encodedAs_group7 rfl rfl, fun c src s => ?_⟩
  rw [exec_jcc]
  refine ⟨fun hset => ?taken, fun hclear => ?notTaken⟩
  case taken => exact execJcc_taken (condHolds_of_and_ne_zero hset)
  case notTaken => exact execJcc_not_taken (condHolds_of_and_eq_zero hclear)

/-- Settles O26: an immediate-enabled entry of group 9, and a push of IP followed by a write of IP. -/
theorem callPushesIpAndJumps : Obligations.CallPushesIpAndJumps := by
  refine ⟨fun m => ?words, fun m s => ⟨s.push s.ip, exec_call m s, s.push_pushes s.ip⟩⟩
  rw [← Caps.extend_imm 1 m.digit m.digit]
  exact encodedAs_group9 rfl rfl (by decide)

/-- Settles O27: RET is a word of group 99 and RETcc an entry of group 8; both return by `State.popIp`, RETcc when the
condition test holds. -/
theorem returnsPopIntoIp : Obligations.ReturnsPopIntoIp := by
  refine ⟨?retWords, fun c => ?retccWords, fun s => ?ret, fun c s => ⟨fun hset => ?taken, fun hclear => ?notTaken⟩⟩
  case retWords =>
    rw [word992]
    exact encodedAs_group99 rfl rfl (by decide) (by decide) (by decide)
  case retccWords => exact encodedAs_group8 rfl rfl (by decide)
  case ret => rw [exec_ret, State.popIp_eq]
  case taken => rw [exec_retcc, execRetcc_taken (condHolds_of_and_ne_zero hset), State.popIp_eq]
  case notTaken => rw [exec_retcc, execRetcc_not_taken (condHolds_of_and_eq_zero hclear)]

/-- Settles O28: a word of group 99, and a write of PSTATE alone. -/
theorem hltGoesIdle : Obligations.HltGoesIdle := by
  refine ⟨?words, exec_hlt⟩
  rw [word999]
  exact encodedAs_group99 rfl rfl (by decide) (by decide) (by decide)

/-- Settles O29: a word of group 99, and a state returned as it is: IP was advanced by the fetch. -/
theorem nopChangesNothing : Obligations.NopChangesNothing := by
  refine ⟨?words, exec_nop⟩
  rw [word993]
  exact encodedAs_group99 rfl rfl (by decide) (by decide) (by decide)

/-- Settles O30: for each FLAGS word, the ten digits by evaluation of the mask; no digit has a bit in common with 0. -/
theorem conditionDigitsTestTheFlagMask : Obligations.ConditionDigitsTestTheFlagMask := by
  refine fun c => ⟨?less, ?greater, ?equal, condHolds_of_and_eq_zero (Nat.zero_and c.val)⟩
  case less | greater | equal => revert c; decide

end Sys2Proof.Machine

/-! ## Transcoding, bitwise logic and bit test (spec/45_bitwise.md) -/

namespace Sys2Proof.Machine

/-! ### Words after 990 and 890 -/

section
variable {p : Word}

/-- The payloads after 990 that are full under the defaults (spec/30_encoding.md R82). -/
theorem caps990_two (hlow : 1 ≤ p.hundreds.val) (hhigh : p.hundreds.val ≤ 6) :
    caps990 Config.opmap Config.decodeCaps p = ⟨CapFlags.full, p.tens, p.units⟩ := by
  have hne : p.hundreds ≠ 8 := fun h8 => absurd (h8 ▸ hhigh) (by decide)
  have hcaps : caps990 Config.opmap Config.decodeCaps p =
      ⟨DecodeCaps.defaultPayload990 p.hundreds, p.tens, p.units⟩ := if_neg hne
  rw [hcaps, DecodeCaps.defaultPayload990_eq, if_pos ⟨hlow, hhigh⟩]

/-- The NOT sub-table has no capability under the defaults (spec/30_encoding.md R82). -/
theorem caps990_sub (hh : p.hundreds = 8) :
    caps990 Config.opmap Config.decodeCaps p = ⟨CapFlags.none, p.units, p.units⟩ := if_pos hh

/-- TSTM's payloads are full under the defaults (spec/30_encoding.md R83). -/
theorem caps890_two (hh : p.hundreds = 1) :
    caps890 Config.opmap Config.decodeCaps p = ⟨CapFlags.full, p.tens, p.units⟩ := by
  have hne : p.hundreds ≠ 6 := fun h6 => absurd (hh.symm.trans h6) (by decide)
  have hcaps : caps890 Config.opmap Config.decodeCaps p =
      ⟨DecodeCaps.defaultPayload890 p.hundreds, p.tens, p.units⟩ := if_neg hne
  rw [hcaps, DecodeCaps.defaultPayload890_eq, if_pos hh]

/-- The bit-test sub-table has no capability under the defaults (spec/30_encoding.md R83). -/
theorem caps890_sub (hh : p.hundreds = 6) :
    caps890 Config.opmap Config.decodeCaps p = ⟨CapFlags.none, p.units, p.units⟩ := if_pos hh

end

section
variable {i : Instr}

/-- An instruction after 990 has the length of its payload's entry, on two opcode words (spec/30_encoding.md R80). -/
theorem encodedAs_of_990 {p : Word} {ws : List Word} (hi : i.wellFormed = true) (he : encode i = 990 :: p :: ws) :
    EncodedAs i (990 :: p :: ws) ((caps990 Config.opmap Config.decodeCaps p).extend 2) := by
  intro rest
  have hback := decodeWith_encodeWith Config.opmap Config.opmap_wf i hi rest
  exact ⟨he ▸ hback, decodeLengthWith_990 _ _ rfl⟩

/-- An instruction after 890 has the length of its payload's entry, on two opcode words (spec/30_encoding.md R80). -/
theorem encodedAs_of_890 {p : Word} {ws : List Word} (hi : i.wellFormed = true) (he : encode i = 890 :: p :: ws) :
    EncodedAs i (890 :: p :: ws) ((caps890 Config.opmap Config.decodeCaps p).extend 2) := by
  intro rest
  have hback := decodeWith_encodeWith Config.opmap Config.opmap_wf i hi rest
  exact ⟨he ▸ hback, decodeLengthWith_890 _ _ rfl⟩

/-- The two-operand words `990, hDS` of the payload entries 1 to 6. -/
theorem encodedAs_990_encodeTwo {h : Digit} {d : Dst} {src : Src} (hi : i.wellFormed = true)
    (he : encode i = 990 :: encodeTwo h d src) (hlow : 1 ≤ h.val) (hhigh : h.val ≤ 6) :
    EncodedAs i (990 :: encodeTwo h d src) (twoOperandLength 2 d src) := by
  have hcaps := caps990_two (p := Word.ofDigits h d.digit src.digit) (by simpa using hlow) (by simpa using hhigh)
  have hlen := encodedAs_of_990 hi he
  rw [hcaps, Word.tens_ofDigits, Word.units_ofDigits, Caps.extend_full_digits] at hlen
  exact hlen

/-- The words `990, 8tu` of the NOT sub-table have decode length 2, whatever words are taken after them
(spec/92_eei_decisions.md D5). -/
theorem encodedAs_990_sub {t u : Digit} {ws : List Word} (hi : i.wellFormed = true)
    (he : encode i = 990 :: Word.ofDigits 8 t u :: ws) : EncodedAs i (990 :: Word.ofDigits 8 t u :: ws) 2 := by
  have hlen := encodedAs_of_990 hi he
  rwa [caps990_sub (Word.hundreds_ofDigits 8 t u), Caps.extend_none] at hlen

/-- The two-operand words `890, 1DS`. -/
theorem encodedAs_890_encodeTwo {d : Dst} {src : Src} (hi : i.wellFormed = true)
    (he : encode i = 890 :: encodeTwo 1 d src) :
    EncodedAs i (890 :: encodeTwo 1 d src) (twoOperandLength 2 d src) := by
  have hlen := encodedAs_of_890 hi he
  rw [caps890_two (Word.hundreds_ofDigits 1 d.digit src.digit), Word.tens_ofDigits, Word.units_ofDigits,
    Caps.extend_full_digits] at hlen
  exact hlen

/-- The words `890, 6tu` of the bit-test sub-table have decode length 2, whatever words are taken after them
(spec/92_eei_decisions.md D5). -/
theorem encodedAs_890_sub {t u : Digit} {ws : List Word} (hi : i.wellFormed = true)
    (he : encode i = 890 :: Word.ofDigits 6 t u :: ws) : EncodedAs i (890 :: Word.ofDigits 6 t u :: ws) 2 := by
  have hlen := encodedAs_of_890 hi he
  rwa [caps890_sub (Word.hundreds_ofDigits 6 t u), Caps.extend_none] at hlen

end

/-! ### Transcoding -/

section
variable {x : Word}

theorem isDigitDecimal_iff :
    isDigitDecimal x = true ↔ x.hundreds.val ≤ 7 ∧ x.tens.val ≤ 7 ∧ x.units.val ≤ 7 := by
  simp [isDigitDecimal, and_assoc]

theorem tc_of_isDigitDecimal (h : isDigitDecimal x = true) :
    tc x = BitVec.ofNat 9 (64 * x.hundreds.val + 8 * x.tens.val + x.units.val) := if_pos h

/-- Outside the domain `tc` is 0 (spec/45_bitwise.md R202). -/
theorem tc_of_not_isDigitDecimal (h : ¬ isDigitDecimal x = true) : tc x = 0 := if_neg h

/-- On the domain `tc` reads the word as an octal numeral (spec/45_bitwise.md R200). -/
theorem tc_toNat (h : isDigitDecimal x = true) :
    (tc x).toNat = 64 * x.hundreds.val + 8 * x.tens.val + x.units.val := by
  obtain ⟨hh, ht, hu⟩ := isDigitDecimal_iff.1 h
  rw [tc_of_isDigitDecimal h, BitVec.toNat_ofNat]
  exact Nat.mod_eq_of_lt (by omega)

end

/-- The three bits of a 9-bit value that stand for one digit: `k = 0` the units, 1 the tens, 2 the hundreds
(spec/45_bitwise.md R200, D9). -/
def threeBits (y : BitVec 9) (k : Fin 3) : BitVec 3 := y.extractLsb' (3 * k.val) 3

section
variable (y : BitVec 9)

/-- The decimal digits of `wordOfBits` are the octal digits of the number (spec/45_bitwise.md R201). -/
theorem wordOfBits_val :
    (wordOfBits y).val = 100 * (y.toNat / 64 % 8) + 10 * (y.toNat / 8 % 8) + y.toNat % 8 :=
  Nat.mod_eq_of_lt (by omega)

theorem wordOfBits_hundreds : (wordOfBits y).hundreds.val = (threeBits y 2).toNat := by
  have hbits : (threeBits y 2).toNat = y.toNat / 64 % 8 := by simp [threeBits, Nat.shiftRight_eq_div_pow]
  have hval := wordOfBits_val y
  simp only [Word.hundreds]
  omega

theorem wordOfBits_tens : (wordOfBits y).tens.val = (threeBits y 1).toNat := by
  have hbits : (threeBits y 1).toNat = y.toNat / 8 % 8 := by simp [threeBits, Nat.shiftRight_eq_div_pow]
  have hval := wordOfBits_val y
  simp only [Word.tens]
  omega

theorem wordOfBits_units : (wordOfBits y).units.val = (threeBits y 0).toNat := by
  have hbits : (threeBits y 0).toNat = y.toNat % 8 := by simp [threeBits]
  have hval := wordOfBits_val y
  simp only [Word.units]
  omega

/-- Every result of `wordOfBits` is in the domain (spec/45_bitwise.md R203). -/
theorem wordOfBits_isDigitDecimal : isDigitDecimal (wordOfBits y) = true := by
  have hlt (k : Fin 3) : (threeBits y k).toNat ≤ 7 := Nat.le_of_lt_succ (threeBits y k).isLt
  rw [isDigitDecimal_iff, wordOfBits_hundreds, wordOfBits_tens, wordOfBits_units]
  exact ⟨hlt 2, hlt 1, hlt 0⟩

/-- One half of the round trip R203. -/
@[simp] theorem tc_wordOfBits : tc (wordOfBits y) = y := by
  apply BitVec.eq_of_toNat_eq
  have hval := wordOfBits_val y
  have hlt := y.isLt
  rw [tc_toNat (wordOfBits_isDigitDecimal y)]
  simp only [Word.hundreds, Word.tens, Word.units]
  omega

/-- A 9-bit value is in the domain of `tcinv` (spec/45_bitwise.md R201). -/
theorem tcinv_wrap_toNat : tcinv (Word.wrap y.toNat) = wordOfBits y := by
  have hlt := y.isLt
  have hval : (Word.wrap y.toNat).val = y.toNat := Nat.mod_eq_of_lt (by omega)
  rw [tcinv, hval, if_pos (by omega), BitVec.ofNat_toNat, BitVec.setWidth_eq]

end

/-- The other half of the round trip R203. -/
theorem wordOfBits_tc {x : Word} (h : isDigitDecimal x = true) : wordOfBits (tc x) = x := by
  obtain ⟨hh, ht, hu⟩ := isDigitDecimal_iff.1 h
  apply Fin.ext
  rw [wordOfBits_val, tc_toNat h]
  simp only [Word.hundreds, Word.tens, Word.units] at hh ht hu ⊢
  omega

theorem tcinv_of_le {y : Word} (h : y.val ≤ 511) : tcinv y = wordOfBits (BitVec.ofNat 9 y.val) := if_pos h

/-- Above 511 `tcinv` is 0 (spec/92_eei_decisions.md D22). -/
theorem tcinv_of_gt {y : Word} (h : 511 < y.val) : tcinv y = 0 := if_neg (not_le.2 h)

/-- Settles O31: both round trips go through `wordOfBits`, whose digits are the octal digits. -/
theorem transcodingIsABijectionOnItsDomain : Obligations.TranscodingIsABijectionOnItsDomain := by
  refine ⟨fun h t u => ?octal, fun x hx => ?outside, fun x hh ht hu => ?back, fun y hy => ?forth,
    fun y => tcinv_of_gt, fun y => (tcinv_wrap_toNat y).symm⟩
  case octal =>
    have hdom : isDigitDecimal (Word.ofDigits (h.castLE (by decide)) (t.castLE (by decide)) (u.castLE (by decide)))
        = true := by
      simp [isDigitDecimal_iff, Nat.le_of_lt_succ h.isLt, Nat.le_of_lt_succ t.isLt, Nat.le_of_lt_succ u.isLt]
    rw [tc_of_isDigitDecimal hdom, Word.hundreds_ofDigits, Word.tens_ofDigits, Word.units_ofDigits]
    rfl
  case outside =>
    apply tc_of_not_isDigitDecimal
    rw [isDigitDecimal_iff]
    omega
  case back => rw [tcinv_wrap_toNat, wordOfBits_tc (isDigitDecimal_iff.2 ⟨hh, ht, hu⟩)]
  case forth =>
    rw [tcinv_of_le hy, tc_wordOfBits, BitVec.toNat_ofNat]
    exact Nat.mod_eq_of_lt (by omega)

/-! ### Logic and shifts of 9-bit values -/

section
variable (y : BitVec 9)

/-- The complement of all nine bits (spec/45_bitwise.md R216). -/
theorem xor_mask_eq : y ^^^ 0x1FF#9 = BitVec.ofNat 9 (511 - y.toNat) := by
  have hnot : y ^^^ 0x1FF#9 = ~~~y := BitVec.xor_allOnes
  apply BitVec.eq_of_toNat_eq
  rw [hnot, BitVec.toNat_not, BitVec.toNat_ofNat]
  exact (Nat.mod_eq_of_lt (by omega)).symm

theorem shiftLeft_eq_mul (n : Nat) : y <<< n = BitVec.ofNat 9 (y.toNat * 2 ^ n) := by
  apply BitVec.eq_of_toNat_eq
  rw [BitVec.toNat_shiftLeft, Nat.shiftLeft_eq, BitVec.toNat_ofNat]

theorem shiftRight_eq_div (n : Nat) : y >>> n = BitVec.ofNat 9 (y.toNat / 2 ^ n) := by
  apply BitVec.eq_of_toNat_eq
  rw [BitVec.toNat_ushiftRight, Nat.shiftRight_eq_div_pow, BitVec.toNat_ofNat]
  exact (Nat.mod_eq_of_lt ((Nat.div_le_self _ _).trans_lt y.isLt)).symm

/-- The complement of all nine bits replaces each digit by 7 minus it (spec/45_bitwise.md R204). -/
theorem threeBits_xor_mask (k : Fin 3) : (threeBits (y ^^^ 0x1FF#9) k).toNat = 7 - (threeBits y k).toNat := by
  have hmask : ∀ k : Fin 3, (0x1FF#9).extractLsb' (3 * k.val) 3 = BitVec.allOnes 3 := by decide
  rw [threeBits, BitVec.extractLsb'_xor, hmask, BitVec.xor_allOnes, BitVec.toNat_not, threeBits]

end

section
variable {x y : Word}

/-- The digit law R204: what holds of the three bits of each digit holds of the digits. -/
theorem digitWise_of_threeBits {f : Nat → Nat → Nat} {z : BitVec 9} (hx : isDigitDecimal x = true)
    (hy : isDigitDecimal y = true)
    (hz : ∀ k, (threeBits z k).toNat = f (threeBits (tc x) k).toNat (threeBits (tc y) k).toNat) :
    DigitWise f x y (wordOfBits z) := by
  refine ⟨?hundreds, ?tens, ?units⟩
  case hundreds =>
    rw [wordOfBits_hundreds, hz, ← wordOfBits_hundreds, ← wordOfBits_hundreds, wordOfBits_tc hx, wordOfBits_tc hy]
  case tens => rw [wordOfBits_tens, hz, ← wordOfBits_tens, ← wordOfBits_tens, wordOfBits_tc hx, wordOfBits_tc hy]
  case units => rw [wordOfBits_units, hz, ← wordOfBits_units, ← wordOfBits_units, wordOfBits_tc hx, wordOfBits_tc hy]

theorem digitWise_or (hx : isDigitDecimal x = true) (hy : isDigitDecimal y = true) :
    DigitWise (· ||| ·) x y (wordOfBits (tc x ||| tc y)) := by
  refine digitWise_of_threeBits hx hy fun k => ?_
  rw [threeBits, BitVec.extractLsb'_or, BitVec.toNat_or]
  rfl

theorem digitWise_xor (hx : isDigitDecimal x = true) (hy : isDigitDecimal y = true) :
    DigitWise (· ^^^ ·) x y (wordOfBits (tc x ^^^ tc y)) := by
  refine digitWise_of_threeBits hx hy fun k => ?_
  rw [threeBits, BitVec.extractLsb'_xor, BitVec.toNat_xor]
  rfl

theorem digitWise_and (hx : isDigitDecimal x = true) (hy : isDigitDecimal y = true) :
    DigitWise (· &&& ·) x y (wordOfBits (tc x &&& tc y)) := by
  refine digitWise_of_threeBits hx hy fun k => ?_
  rw [threeBits, BitVec.extractLsb'_and, BitVec.toNat_and]
  rfl

theorem digitWise_clr (hx : isDigitDecimal x = true) (hy : isDigitDecimal y = true) :
    DigitWise (fun a b => a &&& (7 - b)) x y (wordOfBits (tc x &&& (tc y ^^^ 0x1FF#9))) := by
  refine digitWise_of_threeBits hx hy fun k => ?_
  rw [← threeBits_xor_mask, threeBits, BitVec.extractLsb'_and, BitVec.toNat_and]
  rfl

theorem digitWise_not (hx : isDigitDecimal x = true) (hy : isDigitDecimal y = true) :
    DigitWise (fun a _ => 7 - a) x y (wordOfBits (tc x ^^^ 0x1FF#9)) :=
  digitWise_of_threeBits hx hy fun k => threeBits_xor_mask (tc x) k

/-- A shift left by 3 moves whole digits, the hundreds digit out (spec/45_bitwise.md R204). -/
theorem wordOfBits_tc_shiftLeft_three (hx : isDigitDecimal x = true) :
    wordOfBits (tc x <<< 3) = Word.ofDigits x.tens x.units 0 := by
  obtain ⟨hh, ht, hu⟩ := isDigitDecimal_iff.1 hx
  apply Fin.ext
  rw [wordOfBits_val, BitVec.toNat_shiftLeft, Nat.shiftLeft_eq, tc_toNat hx]
  simp only [Word.ofDigits, Fin.val_zero]
  omega

/-- A shift right by 3 moves whole digits, the units digit out (spec/45_bitwise.md R204). -/
theorem wordOfBits_tc_shiftRight_three (hx : isDigitDecimal x = true) :
    wordOfBits (tc x >>> 3) = Word.ofDigits 0 x.hundreds x.tens := by
  obtain ⟨hh, ht, hu⟩ := isDigitDecimal_iff.1 hx
  apply Fin.ext
  rw [wordOfBits_val, BitVec.toNat_ushiftRight, Nat.shiftRight_eq_div_pow, tc_toNat hx]
  simp only [Word.ofDigits, Fin.val_zero]
  omega

end

/-- An instruction of the assigning shape whose result has the digits `f` on digit-decimal values. -/
theorem combinesDigits_of_assign {mk : Dst → Src → Instr} {g : Word → Word → Word} {f : Nat → Nat → Nat}
    (hmk : ∀ d src, shapeOf (mk d src) = .assign g d src)
    (hg : ∀ {x y}, isDigitDecimal x = true → isDigitDecimal y = true → DigitWise f x y (g x y)) :
    CombinesDigits mk f := by
  intro d src s hd hdst hsrc
  obtain ⟨t, hexec, hputs⟩ := exec_of_assign (s := s) (hmk d src) hd
  exact ⟨t, _, hexec, hputs, hg hdst hsrc⟩

/-! ### The bit tests -/

section
variable {probe y : BitVec 9}

theorem classifyUnder_of_none (h : y &&& probe = 0) : classifyUnder probe y = flagLT := if_pos h

theorem classifyUnder_of_all (hne : y &&& probe ≠ 0) (h : y &&& probe = probe) : classifyUnder probe y = flagGT :=
  (if_neg hne).trans (if_pos h)

theorem classifyUnder_of_some (hne : y &&& probe ≠ 0) (h : y &&& probe ≠ probe) : classifyUnder probe y = flagEQ :=
  (if_neg hne).trans (if_neg h)

end

section
variable {d : Dst} {src : Src} {s : State}

theorem exec_tstm (hd : d ≠ .mode0) :
    exec (.tstm d src) s = .next (s.setFlags (classify (tc (s.dstValue d) &&& tc (s.srcValue src)))) :=
  exec_of_compare (f := fun dv sv => classify (tc dv &&& tc sv)) rfl hd

theorem exec_tst : exec (.tst src) s = .next (s.setFlags (classify (tc (s.srcValue src)))) :=
  exec_of_test (f := fun sv => classify (tc sv)) rfl

end

/-! ### The statements -/

/-- Settles O32: each operation acts on the three bits of each digit apart, and a shift by 3 moves them whole. -/
theorem logicActsDigitByDigit : Obligations.LogicActsDigitByDigit := by
  refine ⟨fun x y hx hy => ?values, ?or, ?xor, ?and, ?clr, fun d s hd hdst => ?not,
    fun d src s hd hdst hthree => ?shifts⟩
  case values =>
    exact ⟨digitWise_or hx hy, digitWise_xor hx hy, digitWise_and hx hy, digitWise_clr hx hy, digitWise_not hx hy⟩
  case or => exact combinesDigits_of_assign (fun _ _ => rfl) digitWise_or
  case xor => exact combinesDigits_of_assign (fun _ _ => rfl) digitWise_xor
  case and => exact combinesDigits_of_assign (fun _ _ => rfl) digitWise_and
  case clr => exact combinesDigits_of_assign (fun _ _ => rfl) digitWise_clr
  case not =>
    obtain ⟨t, hexec, hputs⟩ := exec_of_assign (i := .not d) (s := s) rfl hd
    exact ⟨t, _, hexec, hputs, digitWise_not hdst (by decide)⟩
  case shifts =>
    have hshl := exec_of_assign (i := .shl d src) (s := s) rfl hd
    have hshr := exec_of_assign (i := .shr d src) (s := s) rfl hd
    rw [hthree, wordOfBits_tc_shiftLeft_three hdst] at hshl
    rw [hthree, wordOfBits_tc_shiftRight_three hdst] at hshr
    exact ⟨hshl, hshr⟩

/-- Settles O33: full payload entries after 990, each an assignment. -/
theorem bitLogicActsOnTranscodedValues : Obligations.BitLogicActsOnTranscodedValues := by
  refine ⟨fun d src => ⟨?orWords, ?xorWords, ?andWords, ?clrWords⟩, ?or, ?xor, ?and, ?clr⟩
  case orWords | xorWords | andWords | clrWords => exact encodedAs_990_encodeTwo rfl rfl (by decide) (by decide)
  case or | xor | and | clr => exact combinesAs_of_assign (fun _ _ => rfl) fun _ _ => (wrap_val_eq_self _).symm

/-- Settles O34: full payload entries after 990, each an assignment, the shifts being by powers of two. -/
theorem shiftsMoveTranscodedBits : Obligations.ShiftsMoveTranscodedBits := by
  refine ⟨fun d src => ⟨?shlWords, ?shrWords⟩, ?shl, ?shr⟩
  case shlWords | shrWords => exact encodedAs_990_encodeTwo rfl rfl (by decide) (by decide)
  case shl =>
    refine combinesAs_of_assign (fun _ _ => rfl) fun dv sv => ?_
    rw [wrap_val_eq_self, shiftLeft_eq_mul]
  case shr =>
    refine combinesAs_of_assign (fun _ _ => rfl) fun dv sv => ?_
    rw [wrap_val_eq_self, shiftRight_eq_div]

/-- Settles O35: an entry of the NOT sub-table after 990, and an assignment of the complement. -/
theorem notComplementsNineBits : Obligations.NotComplementsNineBits := by
  refine ⟨fun m => encodedAs_990_sub rfl rfl, updatesAs_of_assign (fun _ => rfl) fun dv => ?_⟩
  rw [wrap_val_eq_self, xor_mask_eq]

/-- Settles O36: a full payload entry and an entry of the bit-test sub-table after 890, each setting FLAGS to a class;
the zero test comes first under every probe (spec/92_eei_decisions.md D10). -/
theorem bitTestsClassifyUnderTheProbe : Obligations.BitTestsClassifyUnderTheProbe := by
  refine ⟨fun d src => encodedAs_890_encodeTwo rfl rfl, fun m => encodedAs_890_sub rfl rfl, fun d src s => ?tstm,
    fun m s => ?tst, fun probe t1 => ?classes⟩
  case tstm => exact ⟨fun hd => exec_of_mode0 (congrArg some hd), exec_tstm⟩
  case tst => exact exec_tst
  case classes =>
    exact ⟨classifyUnder_of_none, classifyUnder_of_all, classifyUnder_of_some⟩

/-- Settles O37: entries of the bit-test sub-table after 890, and assignments of the two transcodings. -/
theorem conversionsTranscodeTheDestination : Obligations.ConversionsTranscodeTheDestination := by
  refine ⟨fun m => ⟨?ctbWords, ?ctdWords⟩, ?ctb, ?ctd⟩
  case ctbWords | ctdWords => exact encodedAs_890_sub rfl rfl
  case ctb => exact updatesAs_of_assign (fun _ => rfl) fun _ => rfl
  case ctd => exact updatesAs_of_assign (fun _ => rfl) fun dv => (wrap_val_eq_self (tcinv dv)).symm

end Sys2Proof.Machine

/-! ## Reserved encodings (spec/46_reserved.md) -/

namespace Sys2Proof.Machine

/-! ### The Error state -/

/-- A reserved instruction enters Error and changes nothing else (spec/46_reserved.md R256, decision D31). -/
theorem exec_of_isReserved {i : Instr} {s : State} (hi : i.isReserved = true) :
    exec i s = .next { s with pstate := .error } := by
  rw [exec_eq_run, shapeOf_of_isReserved hi]
  rfl

/-! ### Words of group 0 and of group 89 -/

/-- Group 0 has no capability under the defaults (spec/30_encoding.md R81). -/
theorem caps1_group0 {w : Word} (hh : w.hundreds = 0) :
    caps1 Config.opmap Config.decodeCaps w = ⟨CapFlags.none, w.tens, w.units⟩ := by
  unfold caps1
  rw [hh]
  rfl

/-- A word of group 89 other than 890 has decode length 1: the other words that the length rule tests for by name are
in group 99 (spec/30_encoding.md R80, R84). -/
theorem decodeLength_of_group89 {b : Buffer} {u : Digit} (hb : b.w0 = Word.ofDigits 8 9 u) (h0 : u ≠ 0) :
    decodeLength b = 1 := by
  have hh : b.w0.hundreds = 8 := by rw [hb, Word.hundreds_ofDigits]
  have hu : b.w0.units = u := by rw [hb, Word.units_ofDigits]
  have hne99 {w : Word} (hw : w.hundreds = 9) : b.w0 ≠ w := by
    rintro rfl
    exact absurd (hh.symm.trans hw) (by decide)
  have hne890 : b.w0 ≠ 890 := fun h => h0 (hu.symm.trans (congrArg Word.units h))
  have hlib : ¬ (b.w0 = Config.opmap.libCode ∨ b.w0 = Config.opmap.sysCode) :=
    not_or.2 ⟨hne99 (Word.hundreds_ofDigits _ _ _), hne99 (Word.hundreds_ofDigits _ _ _)⟩
  rw [decodeLength, decodeLengthWith, if_neg (hne99 rfl), if_neg hne890, if_neg hlib, caps1_group8 hh,
    Caps.extend_none]

/-- LIB and SYS have decode length 2 whatever their entry's capabilities (spec/30_encoding.md R84). -/
theorem decodeLength_of_lib_or_sys {b : Buffer} (hb : b.w0 = 994 ∨ b.w0 = 995) : decodeLength b = 2 := by
  have hne {w : Word} (h4 : w ≠ 994) (h5 : w ≠ 995) : b.w0 ≠ w := by
    rintro rfl
    exact hb.elim h4 h5
  have hlib : b.w0 = Config.opmap.libCode ∨ b.w0 = Config.opmap.sysCode := by simpa using hb
  rw [decodeLength, decodeLengthWith, if_neg (hne (by decide) (by decide)), if_neg (hne (by decide) (by decide)),
    if_pos hlib]

section
variable {i : Instr} {t u : Digit}

/-- An instruction whose first word is `0tu` has decode length 1 (spec/30_encoding.md R81). -/
theorem encodedAs_group0 {ws : List Word} (hi : i.wellFormed = true) (he : encode i = Word.ofDigits 0 t u :: ws) :
    EncodedAs i (Word.ofDigits 0 t u :: ws) 1 := by
  have hcaps := caps1_group0 (w := Word.ofDigits 0 t u) (by simp)
  have hlen := encodedAs_of_entry hi he (.inl (by simp))
  rwa [hcaps, Caps.extend_none] at hlen

/-- The instructions that are one word of group 89. -/
theorem encodedAs_group89 (hi : i.wellFormed = true) (he : encode i = [Word.ofDigits 8 9 u]) (h0 : u ≠ 0) :
    EncodedAs i [Word.ofDigits 8 9 u] 1 := by
  intro rest
  have hback := decodeWith_encodeWith Config.opmap Config.opmap_wf i hi rest
  exact ⟨he ▸ hback, decodeLength_of_group89 rfl h0⟩

/-- The instructions that are the code of LIB or SYS and one more word. -/
theorem encodedAs_lib_or_sys {w x : Word} (hi : i.wellFormed = true) (he : encode i = [w, x])
    (hw : w = 994 ∨ w = 995) : EncodedAs i [w, x] 2 := by
  intro rest
  have hback := decodeWith_encodeWith Config.opmap Config.opmap_wf i hi rest
  exact ⟨he ▸ hback, decodeLength_of_lib_or_sys hw⟩

/-! ### Payloads without a capability -/

/-- The words `990, htu` of a payload entry `h` without a capability, which is not the NOT sub-table's, have decode
length 2 (spec/30_encoding.md R82). -/
theorem encodedAs_990_none {h : Digit} (hi : i.wellFormed = true) (he : encode i = [990, Word.ofDigits h t u])
    (h8 : h ≠ 8) (hnone : DecodeCaps.defaultPayload990 h = CapFlags.none) :
    EncodedAs i [990, Word.ofDigits h t u] 2 := by
  have hcaps : caps990 Config.opmap Config.decodeCaps (Word.ofDigits h t u) = ⟨CapFlags.none, t, u⟩ := by
    rw [caps990, Config.opmap_payload990, Word.hundreds_ofDigits, if_neg h8, Word.tens_ofDigits, Word.units_ofDigits]
    exact congrArg (Caps.mk · t u) hnone
  have hlen := encodedAs_of_990 hi he
  rwa [hcaps, Caps.extend_none] at hlen

/-- The words `890, htu` of a payload entry `h` without a capability, which is not the bit-test sub-table's, have
decode length 2 (spec/30_encoding.md R83). -/
theorem encodedAs_890_none {h : Digit} (hi : i.wellFormed = true) (he : encode i = [890, Word.ofDigits h t u])
    (h6 : h ≠ 6) (hnone : DecodeCaps.defaultPayload890 h = CapFlags.none) :
    EncodedAs i [890, Word.ofDigits h t u] 2 := by
  have hcaps : caps890 Config.opmap Config.decodeCaps (Word.ofDigits h t u) = ⟨CapFlags.none, t, u⟩ := by
    rw [caps890, Config.opmap_payload890, Word.hundreds_ofDigits, if_neg h6, Word.tens_ofDigits, Word.units_ofDigits]
    exact congrArg (Caps.mk · t u) hnone
  have hlen := encodedAs_of_890 hi he
  rwa [hcaps, Caps.extend_none] at hlen

end

/-! ### The statements -/

/-- Settles O38: an entry of the top-level table without a capability, and a reserved instruction. -/
theorem groupZeroEntersError : Obligations.GroupZeroEntersError :=
  fun _ _ => ⟨encodedAs_group0 rfl rfl, fun _ => exec_of_isReserved rfl⟩

/-- Settles O39: the entries of groups 8 and 9, of the two payload tables and of the bit-test sub-table that have a name
but no behaviour; IN is destination-enabled and OUT immediate-enabled (spec/30_encoding.md R81, log 9). -/
theorem namedReservedOperationsEnterError : Obligations.NamedReservedOperationsEnterError := by
  refine ⟨fun m => ⟨?inp, ?out, ?lea, ?si, ?so, ?rotx, ?clrx⟩, fun t u => ⟨?setcc, ?scan, ?len, ?cnt, ?rot⟩,
    fun x => ⟨?lib, ?sys⟩, fun m s => ?errorOfOneDigit, fun t u s => ?errorOfTwoDigits, fun x s => ?errorOfWord⟩
  case inp =>
    rw [← Caps.extend_dst 1 m m]
    exact encodedAs_group9 rfl rfl (by decide)
  case out =>
    rw [← Caps.extend_imm 1 m m]
    exact encodedAs_group9 rfl rfl (by decide)
  case lea | si | so => exact encodedAs_group8 rfl rfl (by decide)
  case rotx | clrx => exact encodedAs_890_sub rfl rfl
  case setcc => exact encodedAs_990_none rfl rfl (by decide) rfl
  case scan | len | cnt | rot => exact encodedAs_890_none rfl rfl (by decide) rfl
  case lib => exact encodedAs_lib_or_sys rfl rfl (.inl rfl)
  case sys => exact encodedAs_lib_or_sys rfl rfl (.inr rfl)
  case errorOfOneDigit | errorOfTwoDigits | errorOfWord => and_intros <;> exact exec_of_isReserved rfl

/-- Settles O40: the entries of the same tables, of group 89, of group 99 and of the NOT sub-table that the source gives
no name; none has a capability. -/
theorem unnamedReservedEntriesEnterError : Obligations.UnnamedReservedEntriesEnterError := by
  refine ⟨fun x => ⟨?g9t7, ?g9t8, ?g8t7, ?g8t8, fun hx => ?g89⟩, ?w996, ?w997, ?w998,
    fun t u => ⟨?p990h0, ?p990h9, ?p890h0, ?p890h7, ?p890h8, ?p890h9, fun ht => ?sub990, fun ht => ?sub890⟩,
    fun x s => ?errorOfOneDigit, fun s => ?errorOfNoDigit, fun t u s => ?errorOfTwoDigits⟩
  case g9t7 | g9t8 =>
    rw [← Caps.extend_none 1 x x]
    exact encodedAs_group9 rfl rfl (by decide)
  case g8t7 | g8t8 => exact encodedAs_group8 rfl rfl (by decide)
  case g89 => exact encodedAs_group89 (decide_eq_true (Fin.pos_iff_ne_zero.2 hx)) rfl hx
  case w996 | w997 | w998 =>
    simp only [word996, word997, word998]
    exact encodedAs_group99 rfl rfl (by decide) (by decide) (by decide)
  case p990h0 | p990h9 => exact encodedAs_990_none rfl rfl (by decide) rfl
  case p890h0 | p890h7 | p890h8 | p890h9 => exact encodedAs_890_none rfl rfl (by decide) rfl
  case sub990 => exact encodedAs_990_sub (decide_eq_true ht) rfl
  case sub890 => exact encodedAs_890_sub (decide_eq_true ht) rfl
  case errorOfOneDigit | errorOfNoDigit | errorOfTwoDigits => and_intros <;> exact exec_of_isReserved rfl

end Sys2Proof.Machine

/-! ## Errors and the processor state (spec/60_exceptions.md R270 to R282) -/

namespace Sys2Proof.Machine

/-! ### What an instruction makes of PSTATE -/

/-- The processor state that an instruction of a shape puts into PSTATE, if it writes PSTATE. -/
def Shape.pstateSet (s : State) : Shape → Option PState
  | .divide _ src => if s.srcValue src = 0 then some .error else none
  | .stop p => some p
  | .assign _ _ _ | .compare _ _ _ _ | .test _ _ _ | .jumpIf _ _ | .pop _ | .push _ | .call _ | .ret | .retIf _
  | .nothing => none

section
variable {s t : State} {sh : Shape} {i : Instr} {p : PState} {src : Src}

/-- What writes PSTATE writes nothing else (spec/60_exceptions.md R271, R273). -/
theorem Shape.run_of_pstateSet_some (h : sh.run s = .next t) (hp : sh.pstateSet s = some p) : t = s.setPstate p := by
  cases sh with
  | stop q => cases h; cases hp; rfl
  | divide d src =>
    obtain ⟨l, -, hk⟩ := withDst_next d s t _ h
    simp only [Shape.pstateSet, ← Fin.val_eq_zero_iff] at hp
    split_ifs at hk hp
    cases hk; cases hp; rfl
  | assign | compare | test | jumpIf | pop | push | call | ret | retIf | nothing => cases hp

theorem Shape.run_of_pstateSet_none (h : sh.run s = .next t) (hp : sh.pstateSet s = none) : t.pstate = s.pstate := by
  cases sh with
  | stop q => cases hp
  | divide d src =>
    obtain ⟨l, -, hk⟩ := withDst_next d s t _ h
    simp only [Shape.pstateSet, ← Fin.val_eq_zero_iff] at hp
    split_ifs at hk hp
    cases hk; exact s.writeLoc_pstate l _
  | assign f d src => obtain ⟨l, -, rfl⟩ := combineDst_next f d src s t h; exact s.writeLoc_pstate l _
  | compare f hf d src => obtain ⟨l, -, rfl⟩ := flagsFromDst_next f d src s t h; rfl
  | pop d =>
    obtain ⟨l, -, hk⟩ := withDst_next d s t _ h
    cases hk; exact s.popped.writeLoc_pstate l _
  | jumpIf c src | retIf c => cases h; split_ifs <;> rfl
  | test | push | call | ret | nothing => cases h; rfl

/-- An instruction that changes PSTATE changes nothing else (spec/60_exceptions.md R271, R273, R281). -/
theorem exec_pstate_cases (h : exec i s = .next t) : t.pstate = s.pstate ∨ ∃ p, t = s.setPstate p := by
  rw [exec_eq_run] at h
  cases hp : (shapeOf i).pstateSet s with
  | none => exact .inl (Shape.run_of_pstateSet_none h hp)
  | some p => exact .inr ⟨p, Shape.run_of_pstateSet_some h hp⟩

/-- The instructions that leave PSTATE: all but HLT, the reserved ones and a DIV whose source is 0. -/
theorem pstateSet_eq_none (hlt : i ≠ .hlt) (hres : i.isReserved = false)
    (hdiv : ∀ d src, i = .div d src → s.srcValue src ≠ 0) : (shapeOf i).pstateSet s = none := by
  cases i with
  | hlt => exact absurd rfl hlt
  | div d src => exact if_neg (hdiv d src rfl)
  | _ => cases hres <;> rfl

/-- A DIV of a source of 0 that is not refused enters Error (spec/41_arithmetic.md R133). -/
theorem exec_div_next_of_zero {d : Dst} (h : exec (.div d src) s = .next t) (h0 : s.srcValue src = 0) :
    t = s.setPstate .error :=
  Shape.run_of_pstateSet_some (sh := .divide d src) (exec_eq_run (.div d src) s ▸ h) (if_pos h0)

end

/-- Settles O41: the instruction of the step changes PSTATE, from the Running that the fetch left, so it changes nothing
else. -/
theorem enteringErrorSavesNothing : Obligations.EnteringErrorSavesNothing := by
  intro s t hrun h herr
  rw [step_of_running hrun] at h
  have hstay : execute t = .next t := execute_of_not_running (by simp [herr])
  rcases exec_pstate_cases h with hkeep | ⟨p, rfl⟩
  · rw [herr, fetch_pstate, hrun] at hkeep
    cases hkeep
  · rw [State.setPstate_pstate] at herr
    subst herr
    exact ⟨rfl, rfl, hstay⟩

/-! ### What the host makes of a state -/

section
variable {s t : State} {slot : Slot} {a : Word} {index n : Nat}

theorem runRequest_of_idle (h : s.pstate = .idle) : runRequest s = s.setPstate .running := by
  rw [runRequest, h]

theorem runRequest_of_not_idle (h : s.pstate ≠ .idle) : runRequest s = s := by
  unfold runRequest
  split
  case h_1 hidle => exact absurd hidle h
  case h_2 | h_3 => rfl

@[simp] theorem setSlot_mem (v : Word) : (setSlot slot v s).mem = s.mem := by cases slot <;> rfl
@[simp] theorem setSlot_xlatt (v : Word) : (setSlot slot v s).xlatt = s.xlatt := by cases slot <;> rfl
@[simp] theorem setSlot_buf (v : Word) : (setSlot slot v s).buf = s.buf := by cases slot <;> rfl
@[simp] theorem setSlot_lastw (v : Word) : (setSlot slot v s).lastw = s.lastw := by cases slot <;> rfl
@[simp] theorem setSlot_pstate (v : Word) : (setSlot slot v s).pstate = s.pstate := by cases slot <;> rfl

/-- A host write to a slot that is not refused sets the slot. -/
theorem hostWriteSlot_next (h : hostWriteSlot slot n s = .next t) : t = setSlot slot (Word.wrap n) s := by
  unfold hostWriteSlot at h
  split_ifs at h
  cases h; rfl

/-- A host write by an index that is not refused is a write to some slot. -/
theorem hostWriteIndex_next (h : hostWriteIndex index n s = .next t) : ∃ slot, hostWriteSlot slot n s = .next t := by
  unfold hostWriteIndex at h
  split at h
  · cases h
  · exact ⟨_, h⟩

theorem hostWriteMem_pstate (h : hostWriteMem a n s = .next t) : t.pstate = s.pstate := by
  obtain ⟨-, rfl⟩ := hostWriteMem_next h
  rfl

theorem hostWriteSlot_pstate (h : hostWriteSlot slot n s = .next t) : t.pstate = s.pstate := by
  rw [hostWriteSlot_next h, setSlot_pstate]

/-- The host's actions other than reset, the run request and EXECUTE leave PSTATE (spec/60_exceptions.md R281). -/
theorem host_changes_pstate {act : HostAction} (h : host act s = .next t) (hne : t.pstate ≠ s.pstate) :
    (∃ start len, act = .reset start len) ∨ act = .run ∨ act = .execute := by
  cases act with
  | reset start len => exact .inl ⟨start, len, rfl⟩
  | run => exact .inr (.inl rfl)
  | execute => exact .inr (.inr rfl)
  | fetch => cases h; exact absurd (fetch_pstate s) hne
  | writeMem | editMem => exact absurd (hostWriteMem_pstate h) hne
  | writeSlot | editSlot => exact absurd (hostWriteSlot_pstate h) hne
  | writeIndex index n =>
    obtain ⟨slot, hslot⟩ := hostWriteIndex_next h
    exact absurd (hostWriteSlot_pstate hslot) hne

end

/-- Settles O42: HLT, the reserved instructions and a DIV of 0 write PSTATE alone, and no other instruction does. -/
theorem processorStateTransitions : Obligations.ProcessorStateTransitions := by
  refine ⟨fun _ _ => rfl, fun _ _ _ => rfl, fun s h => ?fromIdle, fun s h => ?fromOther,
    fun i s t hrun h => ⟨?hlt, ?error, fun hlt hres hdiv => ?keeps⟩, fun _ _ _ => host_changes_pstate⟩
  case fromIdle => rw [runRequest_of_idle h, State.setPstate_pstate]
  case fromOther => rw [runRequest_of_not_idle h]
  case hlt =>
    rintro rfl
    rw [exec_hlt] at h
    cases h; rfl
  case error =>
    rintro (hres | ⟨d, src, rfl, h0⟩)
    · rw [exec_of_isReserved hres] at h
      cases h; rfl
    · rw [exec_div_next_of_zero h h0, State.setPstate_pstate]
  case keeps =>
    rw [exec_eq_run] at h
    exact (Shape.run_of_pstateSet_none h (pstateSet_eq_none hlt hres hdiv)).trans hrun

/-- Settles O14: of the three actions of the host that can change PSTATE, the run request and EXECUTE do nothing
in Error. -/
theorem onlyResetLeavesError : Obligations.OnlyResetLeavesError := by
  intro s herr
  have hexec : execute s = .next s := execute_of_not_running (by simp [herr])
  have hreq : runRequest s = s := runRequest_of_not_idle (by simp [herr])
  refine ⟨hexec, hreq, fun _ _ => rfl, fun a t h hne => ?_⟩
  rcases host_changes_pstate h (herr ▸ hne) with hreset | rfl | rfl
  · exact hreset
  · cases h
    exact absurd (hreq.symm ▸ herr) hne
  · cases hexec.symm.trans h
    exact absurd herr hne

end Sys2Proof.Machine

/-! ## Memory and register accesses of the host (spec/60_exceptions.md R294, R295) -/

namespace Sys2Proof.Machine

/-! ### Memory -/

theorem wrap_val_of_lt {n : Nat} (h : n < 1000) : (Word.wrap n).val = n := Nat.mod_eq_of_lt h

/-- Settles O54: a number that is a word is written to the one cell. -/
theorem hostMemoryWritesSetOneCell : Obligations.HostMemoryWritesSetOneCell := by
  refine fun a n s => ⟨fun hn => ⟨_, if_pos hn, rfl, ?same, fun p hp => ?other⟩, fun hn => if_neg (not_lt.2 hn)⟩
  case same => rw [hostReadMem, Memory.read_write_same, wrap_val_of_lt hn]
  case other => exact Memory.read_write_other _ _ _ _ hp

/-! ### Register slots by name -/

section
variable {s : State} {slot q : Slot} {n : Nat} {v : Word}

/-- The core has the reserved slots below their number (spec/10_state.md R32). -/
theorem hostReadSlot_rsv_isSome {k : Nat} : (hostReadSlot s (.rsv k)).isSome = true ↔ k < s.rsv.length := by
  simp [hostReadSlot]

/-- A slot of the core other than ZERO holds what the host sets it to. -/
theorem hostReadSlot_setSlot_same (hp : (hostReadSlot s slot).isSome = true) (hz : slot ≠ .zero) :
    hostReadSlot (setSlot slot v s) slot = some v := by
  cases slot with
  | zero => exact absurd rfl hz
  | rsv k => exact List.getElem?_set_self (hostReadSlot_rsv_isSome.1 hp)
  | _ => rfl

/-- Setting a slot leaves every other slot: two slots are two fields of the state, two general registers or two entries
of RSV. -/
theorem hostReadSlot_setSlot_other (h : q ≠ slot) : hostReadSlot (setSlot slot v s) q = hostReadSlot s q := by
  cases slot with
  | rsv k =>
    cases q with
    | rsv j => exact List.getElem?_set_ne fun hkj => h (congrArg Slot.rsv hkj.symm)
    | _ => rfl
  | _ => cases q <;> first | rfl | exact absurd rfl h

theorem hostWriteSlot_of_word (hp : (hostReadSlot s slot).isSome = true) (hn : n < 1000) :
    hostWriteSlot slot n s = .next (setSlot slot (Word.wrap n) s) := by
  simp [hostWriteSlot, Option.isNone_eq_false_iff.2 hp, hn]

theorem hostWriteSlot_of_large (hp : (hostReadSlot s slot).isSome = true) (hn : 1000 ≤ n) :
    hostWriteSlot slot n s = .refused (.hostValueNotAWord n) := by
  simp [hostWriteSlot, Option.isNone_eq_false_iff.2 hp, not_lt.2 hn]

theorem hostWriteSlot_of_absent (hp : (hostReadSlot s slot).isSome = false) :
    hostWriteSlot slot n s = .refused .hostNoSuchSlot := by
  simp [hostWriteSlot, Option.isSome_eq_false_iff.1 hp]

end

/-- Settles O55: a slot the core has takes the word, and no field that is no slot changes. -/
theorem hostRegisterWritesSetOneSlot : Obligations.HostRegisterWritesSetOneSlot := by
  refine fun slot n s => ⟨fun hp hn hz => ⟨_, hostWriteSlot_of_word hp hn, ?_⟩, hostWriteSlot_of_word rfl, rfl,
    hostWriteSlot_of_large, hostWriteSlot_of_absent⟩
  exact ⟨hostReadSlot_setSlot_same hp hz, fun q => hostReadSlot_setSlot_other, setSlot_mem _, setSlot_xlatt _,
    setSlot_buf _, setSlot_lastw _, setSlot_pstate _⟩

/-! ### Register slots by index -/

section
variable {slot : Slot} {index n : Nat} {s : State}

theorem slotOfNumber_slotNumber (h : slotPresent slot = true) : slotOfNumber (slotNumber slot) = some slot := by
  cases slot with
  | rsv k => exact if_pos (of_decide_eq_true h)
  | _ => rfl

/-- A number of a slot is the number of that slot only, and the core has the slot. -/
theorem slotNumber_of_slotOfNumber (h : slotOfNumber n = some slot) : slotPresent slot = true ∧ slotNumber slot = n :=
  match n, h with
  | 0, h | 1, h | 2, h | 3, h | 4, h | 5, h | 6, h | 7, h | 8, h | 9, h | 10, h | 11, h | 12, h => by
    cases h; exact ⟨rfl, rfl⟩
  | k + 13, h => by
    rw [slotOfNumber] at h
    split_ifs at h with hk
    cases h; exact ⟨decide_eq_true hk, rfl⟩

theorem slotOfIndex_indexOfSlot (h : slotPresent slot = true) : slotOfIndex (indexOfSlot slot) = some slot := by
  rw [slotOfIndex, indexOfSlot, Equiv.symm_apply_apply, slotOfNumber_slotNumber h]

theorem indexOfSlot_of_slotOfIndex (h : slotOfIndex index = some slot) :
    slotPresent slot = true ∧ indexOfSlot slot = index := by
  obtain ⟨hp, hnum⟩ := slotNumber_of_slotOfNumber h
  exact ⟨hp, by rw [indexOfSlot, hnum, Equiv.apply_symm_apply]⟩

/-- The slots of the register file are those the host can read after reset (spec/10_state.md R32). -/
theorem slotPresent_eq_isSome (slot : Slot) : slotPresent slot = (hostReadSlot State.reset slot).isSome := by
  cases slot with
  | rsv k => rw [slotPresent, Bool.eq_iff_iff, decide_eq_true_iff, hostReadSlot_rsv_isSome, State.reset]
  | _ => rfl

theorem hostWriteIndex_of_slot (h : slotOfIndex index = some slot) :
    hostWriteIndex index n s = hostWriteSlot slot n s := by
  simp only [hostWriteIndex, h]

theorem hostReadIndex_of_slot (h : slotOfIndex index = some slot) : hostReadIndex s index = hostReadSlot s slot := by
  simp only [hostReadIndex, h]

end

/-- Settles O58: the slots are numbered without gaps or repetition, and REG_INDEX permutes the numbers. -/
theorem registerIndicesNumberTheSlots : Obligations.RegisterIndicesNumberTheSlots := by
  refine ⟨fun _ => slotOfIndex_indexOfSlot, fun _ _ => indexOfSlot_of_slotOfIndex, slotPresent_eq_isSome,
    fun slot n s hp => ?_⟩
  have hslot := slotOfIndex_indexOfSlot hp
  exact ⟨hostWriteIndex_of_slot hslot, hostReadIndex_of_slot hslot⟩

end Sys2Proof.Machine

/-! ## Shortfall forms and the step

The words an instruction takes beside its decode length, form by form (spec/70_reset_and_hazards.md R310, R311), and the
instruction cycle (R320). -/

namespace Sys2Proof.Machine

/-! ### Words taken by the operands -/

/-- Only mode 9 gives a destination an extension word (spec/30_encoding.md R112). -/
theorem Dst.ext_length_eq_bracket (d : Dst) : d.ext.length = bracket (d.digit == 9) := by
  cases d with
  | mode0 | abs => rfl
  | reg r | ind r => cases r <;> rfl

/-- Modes 0 and 9 give a source an extension word (spec/30_encoding.md R112). -/
theorem Src.ext_length_eq_bracket (s : Src) : s.ext.length = bracket (s.digit == 0 || s.digit == 9) := by
  cases s with
  | imm | abs => rfl
  | reg r | ind r => cases r <;> rfl

/-- A digit is not both 9 and 0, so the two brackets of a source count the one word it takes. -/
theorem Src.ext_length_eq_add (s : Src) : s.ext.length = bracket (s.digit == 9) + bracket (s.digit == 0) := by
  cases s with
  | imm | abs => rfl
  | reg r | ind r => cases r <;> rfl

/-- The length formula of a full entry counts all the words of a two-operand form: none of these is a shortfall form. -/
theorem encodeTwo_length_eq (h : Digit) (d : Dst) (s : Src) : (encodeTwo h d s).length = twoOperandLength 1 d s := by
  simp only [encodeTwo, twoOperandLength, List.length_cons, List.length_append, Dst.ext_length_eq_bracket,
    Src.ext_length_eq_add]
  omega

/-- The words of a two-operand form after 990 or 890, with 990 or 890 itself. -/
theorem encodeTwo_length_succ (h : Digit) (d : Dst) (s : Src) :
    (encodeTwo h d s).length + 1 = twoOperandLength 2 d s := by
  rw [encodeTwo_length_eq, twoOperandLength, twoOperandLength]
  omega

theorem encodeDst_length_eq (h t : Digit) (m : Dst) : (encodeDst h t m).length = 1 + bracket (m.digit == 9) := by
  rw [encodeDst, List.length_cons, Dst.ext_length_eq_bracket, Nat.add_comm]

/-- The one-source words `9tM` of an immediate-enabled entry. -/
theorem encodedAs_encodeSrc_group9 {i : Instr} {t : Digit} {m : Src} (hi : i.wellFormed = true)
    (he : encode i = encodeSrc 9 t m) (ht : t ≠ 9) (hcap : DecodeCaps.defaultGroup9 t = ⟨false, false, true⟩) :
    EncodedAs i (encodeSrc 9 t m) (1 + bracket (m.digit == 0)) := by
  have hlen := encodedAs_group9 hi he ht
  rw [hcap, Caps.extend_imm] at hlen
  exact hlen

/-! ### The shortfall forms -/

/-- The list of R311 by digits, without the forms after 990 and 890: Jcc with source digit 0, POP, PUSH and CALL with
digit 9, NEG and MOVZ with digit 9, CMPZ with digit 0 or 9. -/
theorem shortfallWords_ofDigits {h t u : Digit} {p : Word} (hne : h.val < 8 ∨ t ≠ 9 ∨ u ≠ 0) :
    shortfallWords (Word.ofDigits h t u) p ↔ (h = 7 ∧ u = 0) ∨ (h = 9 ∧ (t = 4 ∨ t = 5 ∨ t = 6) ∧ u = 9) ∨
      (h = 8 ∧ ((t = 1 ∨ t = 4) ∧ u = 9 ∨ t = 5 ∧ (u = 0 ∨ u = 9))) := by
  simp only [shortfallWords, Word.ofDigits, ne_eq, Fin.ext_iff] at hne ⊢
  omega

/-- After 990 the one form of R311 is NOT with digit 9. -/
theorem shortfallWords_990 (p : Word) : shortfallWords 990 p ↔ p.hundreds = 8 ∧ p.tens = 0 ∧ p.units = 9 := by
  simp only [shortfallWords, Word.hundreds, Word.tens, Word.units, Fin.ext_iff]
  omega

/-- After 890 the forms of R311 are TST with digit 0 or 9, and CTB and CTD with digit 9. -/
theorem shortfallWords_890 (p : Word) : shortfallWords 890 p ↔
    p.hundreds = 6 ∧ (p.tens = 0 ∧ (p.units = 0 ∨ p.units = 9) ∨ (p.tens = 1 ∨ p.tens = 2) ∧ p.units = 9) := by
  simp only [shortfallWords, Word.hundreds, Word.tens, Word.units, Fin.ext_iff]
  omega

/-- The instruction in the buffer takes one word more than its decode length exactly where the list of R311 says so. -/
def TakesAsListed (b : Buffer) : Prop :=
  (shortfallWords b.w0 b.w1 → (encode (decode b)).length = decodeLength b + 1) ∧
  (¬ shortfallWords b.w0 b.w1 → (encode (decode b)).length = decodeLength b)

/-- It is enough that the instruction has one word more than its decode length `n` exactly where `short` holds, and that
the list has its first words exactly there. -/
theorem takesAsListed_of_encodedAs {i : Instr} {ws rest : List Word} {n : Nat} {short : Bool} (h : EncodedAs i ws n)
    (he : encode i = ws) (hlen : ws.length = n + bracket short)
    (hlist : shortfallWords (Buffer.ofWords (ws ++ rest)).w0 (Buffer.ofWords (ws ++ rest)).w1 ↔ short = true) :
    TakesAsListed (Buffer.ofWords (encode i ++ rest)) := by
  obtain ⟨hdec, hn⟩ := h rest
  rw [he, TakesAsListed, hdec, hn, he, hlen, hlist]
  cases short <;> simp [bracket]

/-- Each implemented form: its length formula, the words of its operands, and its place in the list. -/
theorem takesAsListed_of_encode {i : Instr} (hi : i.isReserved = false) (rest : List Word) :
    TakesAsListed (Buffer.ofWords (encode i ++ rest)) := by
  cases i with
  | add d s | sub d s | mul d s | div d s | mov d s | cmp d s =>
    exact takesAsListed_of_encodedAs (short := false) (encodedAs_encodeTwo rfl rfl (by decide) (by decide)) rfl
      (encodeTwo_length_eq _ d s) (by simp [encodeTwo, shortfallWords_ofDigits])
  | jcc c s =>
    exact takesAsListed_of_encodedAs (short := s.digit == 0) (encodedAs_group7 rfl rfl) rfl
      (by simp only [List.length_cons, Src.ext_length_eq_add]; omega) (by simp [shortfallWords_ofDigits])
  | inc m | dec m =>
    exact takesAsListed_of_encodedAs (short := false) (encodedAs_encodeDst_group9 rfl rfl (by decide) rfl) rfl
      (encodeDst_length_eq _ _ m) (by simp [encodeDst, shortfallWords_ofDigits])
  | pop m =>
    exact takesAsListed_of_encodedAs (short := m.digit == 9) (encodedAs_group9 rfl rfl (by decide)) rfl
      (encodeDst_length_eq _ _ m) (by simp [shortfallWords_ofDigits])
  | push m | call m =>
    exact takesAsListed_of_encodedAs (short := m.digit == 9) (encodedAs_encodeSrc_group9 rfl rfl (by decide) rfl) rfl
      (by simp only [encodeSrc, List.length_cons, Src.ext_length_eq_add]; omega)
      (by simp [encodeSrc, shortfallWords_ofDigits])
  | neg m | movz m =>
    exact takesAsListed_of_encodedAs (short := m.digit == 9) (encodedAs_encodeDst_group8 rfl rfl (by decide)) rfl
      (encodeDst_length_eq _ _ m) (by simp [encodeDst, shortfallWords_ofDigits])
  | cmpz m =>
    exact takesAsListed_of_encodedAs (short := m.digit == 0 || m.digit == 9) (encodedAs_group8 rfl rfl (by decide)) rfl
      (by simp only [List.length_cons, Src.ext_length_eq_bracket]; omega) (by simp [shortfallWords_ofDigits])
  | retcc c =>
    exact takesAsListed_of_encodedAs (short := false) (encodedAs_group8 rfl rfl (by decide)) rfl rfl
      (by simp [shortfallWords_ofDigits])
  | pushz | ret | nop =>
    exact takesAsListed_of_encodedAs (short := false)
      (encodedAs_group99 rfl rfl (by decide) (by decide) (by decide)) rfl rfl (by simp [shortfallWords_ofDigits])
  | hlt =>
    exact takesAsListed_of_encodedAs (short := false)
      (encodedAs_group99 (u := 9) rfl rfl (by decide) (by decide) (by decide)) rfl rfl
      (by simp [shortfallWords_ofDigits])
  | or d s | xor d s | and d s | clr d s | shl d s | shr d s =>
    exact takesAsListed_of_encodedAs (short := false) (encodedAs_990_encodeTwo rfl rfl (by decide) (by decide)) rfl
      (encodeTwo_length_succ _ d s) (by simp [encodeTwo, shortfallWords_990])
  | tstm d s =>
    exact takesAsListed_of_encodedAs (short := false) (encodedAs_890_encodeTwo rfl rfl) rfl
      (encodeTwo_length_succ _ d s) (by simp [encodeTwo, shortfallWords_890])
  | not m =>
    exact takesAsListed_of_encodedAs (short := m.digit == 9) (encodedAs_990_sub rfl rfl) rfl
      (by simp only [List.length_cons, Dst.ext_length_eq_bracket]; omega) (by simp [shortfallWords_990])
  | tst m =>
    exact takesAsListed_of_encodedAs (short := m.digit == 0 || m.digit == 9) (encodedAs_890_sub rfl rfl) rfl
      (by simp only [List.length_cons, Src.ext_length_eq_bracket]; omega) (by simp [shortfallWords_890])
  | ctb m | ctd m =>
    exact takesAsListed_of_encodedAs (short := m.digit == 9) (encodedAs_890_sub rfl rfl) rfl
      (by simp only [List.length_cons, Dst.ext_length_eq_bracket]; omega) (by simp [shortfallWords_890])
  | _ => cases hi

/-- A buffer holds the words of its instruction and then whatever follows them. -/
theorem exists_rest_of_decode (b : Buffer) : ∃ rest, Buffer.ofWords (encode (decode b) ++ rest) = b := by
  obtain ⟨-, rest, hrest⟩ := decodeWith_encodes Config.opmap_wf b
  exact ⟨rest, congrArg Buffer.ofWords hrest⟩

/-- Settles O5: a buffer is the words of its instruction and a rest, and each form has its length formula. -/
theorem shortfallFormsAreTheListedOnes : Obligations.ShortfallFormsAreTheListedOnes := by
  intro b hi
  obtain ⟨rest, hb⟩ := exists_rest_of_decode b
  have hlisted := takesAsListed_of_encode hi rest
  rwa [hb] at hlisted

/-! ### The instruction cycle -/

/-- Settles O12: FETCH sets the buffer and IP, and EXECUTE decodes that buffer. -/
theorem stepRunsTheDecodedInstruction : Obligations.StepRunsTheDecodedInstruction := by
  intro s i hrun _ hdec
  rw [step_of_running hrun, hdec]
  rfl

end Sys2Proof.Machine
